-- ==== Sys2Proof/Word.lean ====
section
/-! DEFINITION. The word types of the sequencer (spec/00_scope.md R9): bytes, 16-bit and 32-bit unsigned values. -/

namespace Sys2Proof

/-- `u8` of R9; also one byte on the wire. -/
abbrev Byte := BitVec 8

/-- `u16` of R9: a colour, a cache register, a bound of a window; an `i16` operand is the same 16 bits (R94). -/
abbrev U16 := BitVec 16

/-- `u32` of R9: a count, a length, a frequency. -/
abbrev U32 := BitVec 32

end Sys2Proof
end

