-- ==== Sys2Proof/Config.lean ====
section
/-! DEFINITION. Implementation parameters (spec/00_scope.md R7): the normative constants of R8, the configuration record,
the well-formed initialization table (spec/30_encoding.md R97, R98), and the OPEN parameters and free values, which are
constants without a body. -/

namespace Sys2Proof

/-- A pin's name (R7 "pin id"). -/
abbrev PinId := Nat

/-- A pin level (R11). -/
inductive Level where
  | low
  | high
  deriving DecidableEq, Repr, Inhabited

/-- `BIT_ORDER` (R7). -/
inductive BitOrder where
  | msbFirst
  | lsbFirst
  deriving DecidableEq, Repr, Inhabited

/-- A rectangle of four `i16` values, as CLIP_RECT returns it (R250). -/
structure Rect where
  x : U16
  y : U16
  w : U16
  h : U16
  deriving DecidableEq, Repr, Inhabited

/-- One entry of the initialization table, with the four fields of R97. -/
structure InitEntry where
  commandByte : Byte
  payloadLength : Byte
  postDelayMs : U16
  payloadBytes : List Byte
  deriving DecidableEq, Repr, Inhabited

/-- The sentinel (R98): command 0x00 with payload length 0. Its delay plays no part. -/
def InitEntry.isSentinel (e : InitEntry) : Bool :=
  e.commandByte == 0 && e.payloadLength == 0

/-- The entry part of well-formedness (R98): exactly `payloadLength` payload bytes. -/
def InitEntry.wf (e : InitEntry) : Bool :=
  e.payloadBytes.length == e.payloadLength.toNat

/-- A table is well-formed iff it holds a sentinel and every entry is well-formed (R98). -/
def initTableWf (t : List InitEntry) : Bool :=
  t.any InitEntry.isSentinel && t.all InitEntry.wf

/-- A well-formed table. A configuration can hold no other: an ill-formed one is refused before begin runs (R98; log 15). -/
structure InitTable where
  entries : List InitEntry
  wf : initTableWf entries = true
  deriving DecidableEq, Repr

/-- The refusal of R98: `none` for a table that is not well-formed. -/
def InitTable.ofEntries (t : List InitEntry) : Option InitTable :=
  if h : initTableWf t = true then some ⟨t, h⟩ else none

/-- The table of a lone sentinel. -/
def InitTable.bare : InitTable := ⟨[⟨0, 0, 0, []⟩], by decide⟩

/-- A list of entries as a table: itself where it is well-formed, else the bare one. Used once, for the OPEN table (log 15). -/
def InitTable.orBare (t : List InitEntry) : InitTable :=
  (InitTable.ofEntries t).getD InitTable.bare

/-- The configuration: R7's parameters and R301's construction arguments. An absent pin (R301's −1) is `none`. -/
structure Config where
  rawW : U16
  rawH : U16
  spiFreq : U32
  bitOrder : BitOrder
  spiMode : BitVec 2
  pinDc : PinId
  pinCs : PinId
  pinRst : Option PinId
  pinBl : Option PinId
  pinSclk : Option PinId
  pinMosi : Option PinId
  initTable : InitTable
  madctlTable : Vector Byte 4
  cmdSwreset : Byte
  cmdInvoff : Byte
  cmdInvon : Byte
  cmdCaset : Byte
  cmdRaset : Byte
  cmdRamwr : Byte
  cmdMadctl : Byte
  lvlCmd : Level
  lvlData : Level
  deriving DecidableEq, Repr

/-! The normative constants of R8 (log 18). -/

/-- `CHUNK_PIXELS`. -/
def chunkPixels : Nat := 64
/-- `SENTINEL`, the cache's invalid value. -/
def sentinel : U16 := 0xFFFF
/-- `T_RST_HIGH` in milliseconds (R153). -/
def tRstHigh : U32 := 10
/-- `T_RST_LOW` in milliseconds (R153). -/
def tRstLow : U32 := 20
/-- `T_RST_SETTLE` in milliseconds (R153). -/
def tRstSettle : U32 := 120
/-- `T_SWRESET` in milliseconds (R153). -/
def tSwreset : U16 := 150
/-- `BL_FULL`. -/
def blFull : Byte := 255

/-! OPEN parameters (R7, spec/92_eei_decisions.md D5, D6, D7; R301): the spec gives no value, so they have no body and no
proof can see one. DESIGN CHOICE, safe (log 2). -/

/-- `SPI_FREQ`, OPEN (D5). -/
opaque Config.openSpiFreq : U32
/-- The entries given for `INIT_TABLE`, OPEN (D6). -/
opaque Config.openInitEntries : List InitEntry
/-- `MADCTL_TABLE`, OPEN (D7). -/
opaque Config.openMadctlTable : Vector Byte 4
/-- `PIN_DC`, a construction argument. -/
opaque Config.openPinDc : PinId
/-- `PIN_CS`, a construction argument. -/
opaque Config.openPinCs : PinId
/-- `PIN_RST`, a construction argument, may be absent. -/
opaque Config.openPinRst : Option PinId
/-- `PIN_BL`, a construction argument, may be absent. -/
opaque Config.openPinBl : Option PinId
/-- `PIN_SCLK`, a construction argument, may be absent. -/
opaque Config.openPinSclk : Option PinId
/-- `PIN_MOSI`, a construction argument, may be absent. -/
opaque Config.openPinMosi : Option PinId

/-- The configuration of the machine whose reset is `State.reset`: R7's given values, the rest OPEN.
`CMD_*`, `LVL_*`, `BIT_ORDER` and `SPI_MODE` are the spec's general-knowledge defaults: PRESUMED, unsafe (log 3).
240 by 240 is the §8 scenario's panel (log 4). -/
def Config.machine : Config where
  rawW := 240
  rawH := 240
  spiFreq := Config.openSpiFreq
  bitOrder := .msbFirst
  spiMode := 0
  pinDc := Config.openPinDc
  pinCs := Config.openPinCs
  pinRst := Config.openPinRst
  pinBl := Config.openPinBl
  pinSclk := Config.openPinSclk
  pinMosi := Config.openPinMosi
  initTable := InitTable.orBare Config.openInitEntries
  madctlTable := Config.openMadctlTable
  cmdSwreset := 0x01
  cmdInvoff := 0x20
  cmdInvon := 0x21
  cmdCaset := 0x2A
  cmdRaset := 0x2B
  cmdRamwr := 0x2C
  cmdMadctl := 0x36
  lvlCmd := .low
  lvlData := .high

/-- FREE VALUE: the rectangle CLIP_RECT returns beside `false`, which the spec leaves unspecified (R250, I4). The argument is
`State.freeCount`. No body: nothing can evaluate it. DESIGN CHOICE, safe (log 13). -/
opaque Config.freeRect : Nat → Rect

end Sys2Proof
end

