-- ==== Sys2Proof/Machine/Operands.lean ====
section
/-! DEFINITION. Operand forms and byte order: the bit-field and conversion primitives of spec/00_scope.md R9, the operand
assembly of spec/30_encoding.md R94, and the wire byte order of spec/20_memory.md R73 and R74. -/

namespace Sys2Proof.Machine

/-- `hi8(v) = v[15:8]` (R9). -/
def hi8 (v : U16) : Byte := v.extractLsb' 8 8

/-- `lo8(v) = v[7:0]` (R9). -/
def lo8 (v : U16) : Byte := v.extractLsb' 0 8

/-- A 16-bit operand from its two bytes, high byte first (R94). -/
def be16 (b0 b1 : Byte) : U16 := b0 ++ b1

/-- The upper 16 bits of a u32. -/
def hi16 (v : U32) : U16 := v.extractLsb' 16 16

/-- The lower 16 bits of a u32. -/
def lo16 (v : U32) : U16 := v.extractLsb' 0 16

/-- A 32-bit operand from its four bytes, high byte first (R94). -/
def be32 (b0 b1 b2 b3 : Byte) : U32 := be16 b0 b1 ++ be16 b2 b3

/-- The two bytes of a u16, high byte first (R91). -/
def bytesU16 (v : U16) : List Byte := [hi8 v, lo8 v]

/-- The four bytes of a u32, high byte first (R91). -/
def bytesU32 (v : U32) : List Byte := bytesU16 (hi16 v) ++ bytesU16 (lo16 v)

/-- A `bool` operand's byte (R91). -/
def byteBool (b : Bool) : Byte := if b then 0x01 else 0x00

/-- The integer an `i16` operand stands for (R94: the two's-complement reading of its 16 bits). -/
def coord (v : U16) : Int := v.toInt

/-- `u16(v) = v mod 2^16` (R9). -/
def u16OfInt (v : Int) : U16 := BitVec.ofInt 16 v

/-- A pixel's two bytes on the wire, most significant first (R73). -/
def pixelBytes (c : U16) : List Byte := bytesU16 c

/-- The four data bytes of a range frame (R103, R74): start, then end, each high byte first. -/
def rangeBytes (a b : U16) : List Byte := bytesU16 a ++ bytesU16 b

/-- `r & 3` as a u2 (R230). -/
def rotationOf (r : Byte) : BitVec 2 := r.setWidth 2

/-- A u2 returned as a u8 (R240). -/
def rotationByte (r : BitVec 2) : Byte := r.setWidth 8

/-- A u16 delay as the u32 field of a `Sleep` event (R60). -/
def delayOf (ms : U16) : U32 := ms.setWidth 32

end Sys2Proof.Machine
end

