-- ==== Sys2Proof/Syntax.lean ====
section
/-! DEFINITION. The instruction set, whole: one constructor per row of spec/opcode_table.json. Level (a) of R3 is the 24 host
requests of spec/30_encoding.md R92 and R93; level (b) is the seven frames the block itself composes (R103). An `i16`
operand is its 16 bits (R94); a `bool` operand is a `Bool` (R91); a null pointer is the empty list (R95; log 19). -/

namespace Sys2Proof

/-- One instruction of either level. -/
inductive Instr where
  | begin (speed : U32)
  | startWrite
  | endWrite
  | sendCommand (cmd : Byte) (delayMs : U16) (data : List Byte)
  | setAddrWindow (x y w h : U16)
  | writeColorRepeated (color : U16) (count : U32)
  | writePixel (x y color : U16)
  | writePixels (colors : List U16)
  | writeFastHLine (x y w color : U16)
  | writeFastVLine (x y h color : U16)
  | writeFillRect (x y w h color : U16)
  | setRotation (r : Byte)
  | invertDisplay (invert : Bool)
  | setBacklight (on : Bool)
  | setBacklightLevel (level : Byte)
  | getWidth
  | getHeight
  | getRotation
  | drawPixel (x y color : U16)
  | drawFastHLine (x y w color : U16)
  | drawFastVLine (x y h color : U16)
  | fillRect (x y w h color : U16)
  | fillScreen (color : U16)
  | clipRect (x y w h : U16)
  | caset (x0 x1 : U16)
  | raset (y0 y1 : U16)
  | ramwr
  | madctl (m : Byte)
  | invon
  | invoff
  | swreset
  deriving DecidableEq, Repr

/-- The two levels of R3: (a) a host request, (b) a frame the block composes. -/
inductive InstrLevel where
  | request
  | frame
  deriving DecidableEq, Repr

/-- Which level an instruction stands on (the table's "format": HOSTREQ or WIRE_CMD). -/
def Instr.level : Instr → InstrLevel
  | .caset _ _ | .raset _ _ | .ramwr | .madctl _ | .invon | .invoff | .swreset => .frame
  | .begin _ | .startWrite | .endWrite | .sendCommand _ _ _ | .setAddrWindow _ _ _ _ | .writeColorRepeated _ _
  | .writePixel _ _ _ | .writePixels _ | .writeFastHLine _ _ _ _ | .writeFastVLine _ _ _ _ | .writeFillRect _ _ _ _ _
  | .setRotation _ | .invertDisplay _ | .setBacklight _ | .setBacklightLevel _ | .getWidth | .getHeight | .getRotation
  | .drawPixel _ _ _ | .drawFastHLine _ _ _ _ | .drawFastVLine _ _ _ _ | .fillRect _ _ _ _ _ | .fillScreen _
  | .clipRect _ _ _ _ => .request

/-! Pseudo-operations (R107). `fillScreen` is an operation of its own (R256). -/

/-- `begin()` is `begin(0)`. -/
def Instr.beginDefault : Instr := .begin 0

/-- `sendCommand(cmd)` is `sendCommand(cmd, [], 0, 0)`. -/
def Instr.sendCommandShort (cmd : Byte) : Instr := .sendCommand cmd 0 []

/-- The source's name of an operation (R106), for level (b) the command's conventional name (R17). -/
def Instr.sourceName : Instr → String
  | .begin _ => "begin"
  | .startWrite => "startWrite"
  | .endWrite => "endWrite"
  | .sendCommand _ _ _ => "sendCommand"
  | .setAddrWindow _ _ _ _ => "setAddrWindow"
  | .writeColorRepeated _ _ => "writeColorRepeated"
  | .writePixel _ _ _ => "writePixel"
  | .writePixels _ => "writePixels"
  | .writeFastHLine _ _ _ _ => "writeFastHLine"
  | .writeFastVLine _ _ _ _ => "writeFastVLine"
  | .writeFillRect _ _ _ _ _ => "writeFillRect"
  | .setRotation _ => "setRotation"
  | .invertDisplay _ => "invertDisplay"
  | .setBacklight _ => "setBacklight"
  | .setBacklightLevel _ => "setBacklightLevel"
  | .getWidth => "width"
  | .getHeight => "height"
  | .getRotation => "rotation"
  | .drawPixel _ _ _ => "drawPixel"
  | .drawFastHLine _ _ _ _ => "drawFastHLine"
  | .drawFastVLine _ _ _ _ => "drawFastVLine"
  | .fillRect _ _ _ _ _ => "fillRect"
  | .fillScreen _ => "fillScreen"
  | .clipRect _ _ _ _ => "clipRect"
  | .caset _ _ => "CASET"
  | .raset _ _ => "RASET"
  | .ramwr => "RAMWR"
  | .madctl _ => "MADCTL"
  | .invon => "INVON"
  | .invoff => "INVOFF"
  | .swreset => "SWRESET"

end Sys2Proof
end

