-- ==== Sys2Proof/WellFormed.lean ====
section
/-! DEFINITION. Well-formed instructions: those whose operands fit the fields of their encoding (spec/30_encoding.md R91,
R92). Only two operands can fail to fit, since every other one has its field's width as its type: the payload of
SEND_COMMAND, whose length is a u8, and the colours of WRITE_PIXELS, whose length is a u32. -/

namespace Sys2Proof

/-- The operands fit their fields. -/
def Instr.wellFormed : Instr → Bool
  | .sendCommand _ _ data => data.length < 2 ^ 8
  | .writePixels colors => colors.length < 2 ^ 32
  | .begin _ | .startWrite | .endWrite | .setAddrWindow _ _ _ _ | .writeColorRepeated _ _
  | .writePixel _ _ _ | .writeFastHLine _ _ _ _ | .writeFastVLine _ _ _ _ | .writeFillRect _ _ _ _ _
  | .setRotation _ | .invertDisplay _ | .setBacklight _ | .setBacklightLevel _ | .getWidth | .getHeight | .getRotation
  | .drawPixel _ _ _ | .drawFastHLine _ _ _ _ | .drawFastVLine _ _ _ _ | .fillRect _ _ _ _ _ | .fillScreen _
  | .clipRect _ _ _ _ | .caset _ _ | .raset _ _ | .ramwr | .madctl _ | .invon | .invoff | .swreset => true

end Sys2Proof
end

