-- ==== Sys2Proof/Decode.lean ====
section
/-! DEFINITION. The decoder and the encoder of spec/30_encoding.md: host requests (R90 to R96), the frames the block composes
(R103), and serialized init-table entries (R97 to R99). Every decoder takes a list of bytes and answers what it read with the
rest of the list, or names why it refuses; it is total on any bytes. -/

namespace Sys2Proof

open Sys2Proof.Machine

/-- Why bytes spell no operation (R96), or no frame of R103. -/
inductive DecodeError where
  /-- No byte at all. -/
  | empty
  /-- The opcode is 0x00, 0x13 to 0x1F or 0x26 to 0xFF (R96). -/
  | unassignedOpcode (op : Byte)
  /-- A bool operand other than 0x00 or 0x01 (R96). -/
  | badBool (b : Byte)
  /-- Fewer bytes than the request's or the frame's length (R96). -/
  | tooShort
  /-- A command byte that is none of R103's seven composed frames. -/
  | unknownFrame (cmd : Byte)
  deriving DecidableEq, Repr

/-- What a decoder answers: the value read and the bytes after it, or the reason it refuses. -/
abbrev Read (α : Type) := Except DecodeError (α × List Byte)

/-- Read a value, then go on with it and the bytes after it; a refusal ends the reading. -/
def readThen {α β : Type} (x : Read α) (f : α → List Byte → Read β) : Read β :=
  match x with
  | .ok (a, r) => f a r
  | .error e => .error e

/-! Operand readers (R91, R94). -/

/-- A `u8` operand. -/
def readU8 : List Byte → Read Byte
  | b :: r => .ok (b, r)
  | [] => .error .tooShort

/-- A `u16` or `i16` operand, high byte first. -/
def readU16 : List Byte → Read U16
  | b0 :: b1 :: r => .ok (be16 b0 b1, r)
  | _ => .error .tooShort

/-- A `u32` operand, high byte first. -/
def readU32 : List Byte → Read U32
  | b0 :: b1 :: b2 :: b3 :: r => .ok (be32 b0 b1 b2 b3, r)
  | _ => .error .tooShort

/-- A `bool` operand: 0x00 or 0x01, anything else is illegal (R91, R96). -/
def readBool : List Byte → Read Bool
  | b :: r => if b = 0x00 then .ok (false, r) else if b = 0x01 then .ok (true, r) else .error (.badBool b)
  | [] => .error .tooShort

/-- A `bytes[n]` operand. -/
def readBytes (n : Nat) (bs : List Byte) : Read (List Byte) :=
  if bs.length < n then .error .tooShort else .ok (bs.take n, bs.drop n)

/-- The u16 values of a byte list, high byte first. -/
def u16sOfBytes : List Byte → List U16
  | b0 :: b1 :: r => be16 b0 b1 :: u16sOfBytes r
  | _ => []

/-- A `u16s[n]` operand. -/
def readU16s (n : Nat) (bs : List Byte) : Read (List U16) :=
  readThen (readBytes (2 * n) bs) fun b r =>
  .ok (u16sOfBytes b, r)

/-- Three 16-bit operands. -/
def readU16x3 (bs : List Byte) : Read (U16 × U16 × U16) :=
  readThen (readU16 bs) fun a bs =>
  readThen (readU16 bs) fun b bs =>
  readThen (readU16 bs) fun c bs =>
  .ok ((a, b, c), bs)

/-- Four 16-bit operands. -/
def readU16x4 (bs : List Byte) : Read (U16 × U16 × U16 × U16) :=
  readThen (readU16 bs) fun a bs =>
  readThen (readU16x3 bs) fun ⟨b, c, d⟩ bs =>
  .ok ((a, b, c, d), bs)

/-! Level (a): host requests. -/

/-- The operands of a request whose opcode is `op` (R92, R93), lengths as in R95. -/
def decodeOperands (op : Byte) (bs : List Byte) : Read Instr :=
  match op.toNat with
  | 0x01 => readThen (readU32 bs) fun speed r => .ok (.begin speed, r)
  | 0x02 => .ok (.startWrite, bs)
  | 0x03 => .ok (.endWrite, bs)
  | 0x04 =>
    readThen (readU8 bs) fun cmd r =>
    readThen (readU16 r) fun delayMs r =>
    readThen (readU8 r) fun len r =>
    readThen (readBytes len.toNat r) fun data r =>
    .ok (.sendCommand cmd delayMs data, r)
  | 0x05 => readThen (readU16x4 bs) fun ⟨x, y, w, h⟩ r => .ok (.setAddrWindow x y w h, r)
  | 0x06 =>
    readThen (readU16 bs) fun color r =>
    readThen (readU32 r) fun count r =>
    .ok (.writeColorRepeated color count, r)
  | 0x07 => readThen (readU16x3 bs) fun ⟨x, y, color⟩ r => .ok (.writePixel x y color, r)
  | 0x08 =>
    readThen (readU32 bs) fun len r =>
    readThen (readU16s len.toNat r) fun colors r =>
    .ok (.writePixels colors, r)
  | 0x09 => readThen (readU16x4 bs) fun ⟨x, y, w, color⟩ r => .ok (.writeFastHLine x y w color, r)
  | 0x0A => readThen (readU16x4 bs) fun ⟨x, y, h, color⟩ r => .ok (.writeFastVLine x y h color, r)
  | 0x0B =>
    readThen (readU16x4 bs) fun ⟨x, y, w, h⟩ r =>
    readThen (readU16 r) fun color r =>
    .ok (.writeFillRect x y w h color, r)
  | 0x0C => readThen (readU8 bs) fun v r => .ok (.setRotation v, r)
  | 0x0D => readThen (readBool bs) fun v r => .ok (.invertDisplay v, r)
  | 0x0E => readThen (readBool bs) fun v r => .ok (.setBacklight v, r)
  | 0x0F => readThen (readU8 bs) fun v r => .ok (.setBacklightLevel v, r)
  | 0x10 => .ok (.getWidth, bs)
  | 0x11 => .ok (.getHeight, bs)
  | 0x12 => .ok (.getRotation, bs)
  | 0x20 => readThen (readU16x3 bs) fun ⟨x, y, color⟩ r => .ok (.drawPixel x y color, r)
  | 0x21 => readThen (readU16x4 bs) fun ⟨x, y, w, color⟩ r => .ok (.drawFastHLine x y w color, r)
  | 0x22 => readThen (readU16x4 bs) fun ⟨x, y, h, color⟩ r => .ok (.drawFastVLine x y h color, r)
  | 0x23 =>
    readThen (readU16x4 bs) fun ⟨x, y, w, h⟩ r =>
    readThen (readU16 r) fun color r =>
    .ok (.fillRect x y w h color, r)
  | 0x24 => readThen (readU16 bs) fun color r => .ok (.fillScreen color, r)
  | 0x25 => readThen (readU16x4 bs) fun ⟨x, y, w, h⟩ r => .ok (.clipRect x y w h, r)
  | _ => .error (.unassignedOpcode op)

/-- The decoder of host requests (R90 to R96): the request at the head of the bytes, and the bytes after it. -/
def decodeRequest : List Byte → Read Instr
  | [] => .error .empty
  | op :: bs => decodeOperands op bs

/-! Level (b): the frames of R103, by the configuration's command bytes (the CMD_* parameters of R7). -/

/-- The seven command bytes of a configuration (R7), in the order of the opcode table's rows. -/
def Config.frameCommands (cfg : Config) : List Byte :=
  [cfg.cmdCaset, cfg.cmdRaset, cfg.cmdRamwr, cfg.cmdMadctl, cfg.cmdInvon, cfg.cmdInvoff, cfg.cmdSwreset]

/-- The data bytes of a composed frame whose command byte is `cmd` (R103). Where a configuration gives two commands one byte,
the first of the table's order is read: DESIGN CHOICE, unsafe (log 23). -/
def decodeFrameData (cfg : Config) (cmd : Byte) (bs : List Byte) : Read Instr :=
  if cmd = cfg.cmdCaset then
    readThen (readU16 bs) fun x0 r =>
    readThen (readU16 r) fun x1 r =>
    .ok (.caset x0 x1, r)
  else if cmd = cfg.cmdRaset then
    readThen (readU16 bs) fun y0 r =>
    readThen (readU16 r) fun y1 r =>
    .ok (.raset y0 y1, r)
  else if cmd = cfg.cmdRamwr then .ok (.ramwr, bs)
  else if cmd = cfg.cmdMadctl then readThen (readU8 bs) fun m r => .ok (.madctl m, r)
  else if cmd = cfg.cmdInvon then .ok (.invon, bs)
  else if cmd = cfg.cmdInvoff then .ok (.invoff, bs)
  else if cmd = cfg.cmdSwreset then .ok (.swreset, bs)
  else .error (.unknownFrame cmd)

/-- The decoder of composed frames: a command byte and its data bytes (R102, R103). -/
def decodeFrame (cfg : Config) : List Byte → Read Instr
  | [] => .error .empty
  | cmd :: bs => decodeFrameData cfg cmd bs

/-- The decoder of either level. -/
def decodeAt (cfg : Config) : InstrLevel → List Byte → Read Instr
  | .request => decodeRequest
  | .frame => decodeFrame cfg

/-! The encoder (R90 to R93, R103). -/

/-- The opcode of R92 and R93, or the configuration's command byte of R103. -/
def opcodeIn (cfg : Config) : Instr → Byte
  | .begin _ => 0x01
  | .startWrite => 0x02
  | .endWrite => 0x03
  | .sendCommand _ _ _ => 0x04
  | .setAddrWindow _ _ _ _ => 0x05
  | .writeColorRepeated _ _ => 0x06
  | .writePixel _ _ _ => 0x07
  | .writePixels _ => 0x08
  | .writeFastHLine _ _ _ _ => 0x09
  | .writeFastVLine _ _ _ _ => 0x0A
  | .writeFillRect _ _ _ _ _ => 0x0B
  | .setRotation _ => 0x0C
  | .invertDisplay _ => 0x0D
  | .setBacklight _ => 0x0E
  | .setBacklightLevel _ => 0x0F
  | .getWidth => 0x10
  | .getHeight => 0x11
  | .getRotation => 0x12
  | .drawPixel _ _ _ => 0x20
  | .drawFastHLine _ _ _ _ => 0x21
  | .drawFastVLine _ _ _ _ => 0x22
  | .fillRect _ _ _ _ _ => 0x23
  | .fillScreen _ => 0x24
  | .clipRect _ _ _ _ => 0x25
  | .caset _ _ => cfg.cmdCaset
  | .raset _ _ => cfg.cmdRaset
  | .ramwr => cfg.cmdRamwr
  | .madctl _ => cfg.cmdMadctl
  | .invon => cfg.cmdInvon
  | .invoff => cfg.cmdInvoff
  | .swreset => cfg.cmdSwreset

/-- The operand bytes, in the order R92, R93 and R103 list them. -/
def operandBytes : Instr → List Byte
  | .begin speed => bytesU32 speed
  | .sendCommand cmd delayMs data => cmd :: (bytesU16 delayMs ++ BitVec.ofNat 8 data.length :: data)
  | .setAddrWindow x y w h => bytesU16 x ++ bytesU16 y ++ bytesU16 w ++ bytesU16 h
  | .writeColorRepeated color count => bytesU16 color ++ bytesU32 count
  | .writePixel x y color => bytesU16 x ++ bytesU16 y ++ bytesU16 color
  | .writePixels colors => bytesU32 (BitVec.ofNat 32 colors.length) ++ colors.flatMap bytesU16
  | .writeFastHLine x y w color => bytesU16 x ++ bytesU16 y ++ bytesU16 w ++ bytesU16 color
  | .writeFastVLine x y h color => bytesU16 x ++ bytesU16 y ++ bytesU16 h ++ bytesU16 color
  | .writeFillRect x y w h color => bytesU16 x ++ bytesU16 y ++ bytesU16 w ++ bytesU16 h ++ bytesU16 color
  | .setRotation r => [r]
  | .invertDisplay b => [byteBool b]
  | .setBacklight b => [byteBool b]
  | .setBacklightLevel l => [l]
  | .drawPixel x y color => bytesU16 x ++ bytesU16 y ++ bytesU16 color
  | .drawFastHLine x y w color => bytesU16 x ++ bytesU16 y ++ bytesU16 w ++ bytesU16 color
  | .drawFastVLine x y h color => bytesU16 x ++ bytesU16 y ++ bytesU16 h ++ bytesU16 color
  | .fillRect x y w h color => bytesU16 x ++ bytesU16 y ++ bytesU16 w ++ bytesU16 h ++ bytesU16 color
  | .fillScreen color => bytesU16 color
  | .clipRect x y w h => bytesU16 x ++ bytesU16 y ++ bytesU16 w ++ bytesU16 h
  | .caset x0 x1 => rangeBytes x0 x1
  | .raset y0 y1 => rangeBytes y0 y1
  | .madctl m => [m]
  | .startWrite | .endWrite | .getWidth | .getHeight | .getRotation | .ramwr | .invon | .invoff | .swreset => []

/-- The bytes of an instruction: its request record (R90), or its frame in a configuration (R102). -/
def encodeIn (cfg : Config) (i : Instr) : List Byte := opcodeIn cfg i :: operandBytes i

/-- The opcode table's first byte of an instruction: the CMD_* defaults of R7 for a frame. -/
def opcodeOf (i : Instr) : Byte := opcodeIn Config.machine i

/-- The bytes of an instruction as the opcode table has them; a request's are the same in every configuration. -/
def encode (i : Instr) : List Byte := encodeIn Config.machine i

/-- The length column of R92 and R93, with R95's two variable lengths; for a frame, its command and data bytes (R103). -/
def encodedLength : Instr → Nat
  | .begin _ => 5
  | .startWrite | .endWrite | .getWidth | .getHeight | .getRotation => 1
  | .sendCommand _ _ data => 5 + data.length
  | .setAddrWindow _ _ _ _ | .clipRect _ _ _ _ => 9
  | .writeColorRepeated _ _ | .writePixel _ _ _ | .drawPixel _ _ _ => 7
  | .writePixels colors => 5 + 2 * colors.length
  | .writeFastHLine _ _ _ _ | .writeFastVLine _ _ _ _ | .drawFastHLine _ _ _ _ | .drawFastVLine _ _ _ _ => 9
  | .writeFillRect _ _ _ _ _ | .fillRect _ _ _ _ _ => 11
  | .setRotation _ | .invertDisplay _ | .setBacklight _ | .setBacklightLevel _ => 2
  | .fillScreen _ => 3
  | .caset _ _ | .raset _ _ => 5
  | .madctl _ => 2
  | .ramwr | .invon | .invoff | .swreset => 1

/-! Serialized init-table entries (R97, R99): `[cmd, len, hi8(delay), lo8(delay), payload…]`. -/

/-- One serialized entry, and the bytes after it. -/
def decodeInitEntry (bs : List Byte) : Read InitEntry :=
  readThen (readU8 bs) fun cmd r =>
  readThen (readU8 r) fun len r =>
  readThen (readU16 r) fun delay r =>
  readThen (readBytes len.toNat r) fun payload r =>
  .ok (⟨cmd, len, delay, payload⟩, r)

/-- The serialized form of an entry. -/
def encodeInitEntry (e : InitEntry) : List Byte :=
  e.commandByte :: e.payloadLength :: (bytesU16 e.postDelayMs ++ e.payloadBytes)

/-- The entries of a serialized table up to and with its first sentinel; `fuel` bounds their number (R98: entries after the
first sentinel are never read). -/
def decodeInitEntries : Nat → List Byte → Read (List InitEntry)
  | 0, _ => .error .tooShort
  | fuel + 1, bs =>
    readThen (decodeInitEntry bs) fun e r =>
    if e.isSentinel then .ok ([e], r)
    else readThen (decodeInitEntries fuel r) fun es r => .ok (e :: es, r)

/-- A serialized table (R99); a table without a sentinel is refused (R98). -/
def decodeInitTable (bs : List Byte) : Read (List InitEntry) := decodeInitEntries bs.length bs

/-! The opcode table's numbering: bit 0 is the least significant bit of the first byte. -/

/-- `n` bytes of `w`, the first the least significant. -/
def bytesOfNat : Nat → Nat → List Byte
  | 0, _ => []
  | n + 1, w => BitVec.ofNat 8 w :: bytesOfNat n (w / 256)

/-- The longest instruction whose variable part is empty: WRITE_FILL_RECT and FILL_RECT (R92, R93). -/
def longestBytes : Nat := 11

/-- The bytes of a table word of `nbits` bits, with zeros above them up to the longest instruction. -/
def bytesOfTableWord (nbits w : Nat) : List Byte :=
  bytesOfNat (max longestBytes (nbits / 8)) (w % 2 ^ nbits)

/-- Which level a table word is read on: level (a) where it spells a host request, else level (b) (log 9: the table numbers
both levels in one code space, and 0x01, 0x20 and 0x21 stand on both). The table's frames have the CMD_* defaults. -/
def levelOfTableWord (nbits w : Nat) : InstrLevel :=
  match decodeRequest (bytesOfTableWord nbits w) with
  | .ok _ => .request
  | .error _ =>
    match decodeFrame Config.machine (bytesOfTableWord nbits w) with
    | .ok _ => .frame
    | .error _ => .request

/-- The instruction the decoder reads from a table word. -/
def decodeTableWord (nbits w : Nat) : Option Instr :=
  match decodeAt Config.machine (levelOfTableWord nbits w) (bytesOfTableWord nbits w) with
  | .ok (i, _) => some i
  | .error _ => none

/-- The bytes of a table word as a configuration spells its instruction: a frame's command byte is the configuration's. -/
def bytesOfTableWordIn (cfg : Config) (nbits w : Nat) : List Byte :=
  match decodeAt Config.machine (levelOfTableWord nbits w) (bytesOfTableWord nbits w) with
  | .ok (i, rest) => encodeIn cfg i ++ rest
  | .error _ => bytesOfTableWord nbits w

end Sys2Proof
end

