-- ==== Sys2Proof/Machine/State.lean ====
section
/-! DEFINITION. The architectural state (spec/10_state.md R21), the interface events (spec/20_memory.md R60), the reasons a
step can stop, and reset, which is construction (spec/70_reset_and_hazards.md R300, R301). -/

namespace Sys2Proof.Machine

/-- The fault names of R13; R282 gives the only one. -/
inductive FaultName where
  | idleStream
  deriving DecidableEq, Repr

/-- The interface events of R60, one constructor per row. -/
inductive Event where
  | busInit (sclk mosi : Option PinId)
  | busOpen (freq : U32) (order : BitOrder) (mode : BitVec 2)
  | busClose
  | busWriteByte (b : Byte)
  | busWriteBytes (bs : List Byte)
  | pinConfigOut (p : PinId)
  | pinSet (p : PinId) (lvl : Level)
  | sleep (ms : U32)
  | fault (name : FaultName)
  deriving DecidableEq, Repr

/-- A value an operation returns to the host (R295): begin's and the accessors', and CLIP_RECT's flag and rectangle. -/
inductive Result where
  | bool (b : Bool)
  | u16 (v : U16)
  | u8 (v : Byte)
  | clip (ok : Bool) (r : Rect)
  deriving DecidableEq, Repr

/-- `S.initPhase` (R33): the phases visible between operations. -/
inductive InitPhase where
  | uninit
  | ready
  deriving DecidableEq, Repr

/-- The state. The fields from `width` to `trace` are R21's, whole; the others are the model's own (INVENTORY.md, State). -/
structure State where
  /-- The configuration (R7): constant, no operation writes it (log 1). -/
  cfg : Config
  /-- `S.width`. -/
  width : U16
  /-- `S.height`. -/
  height : U16
  /-- `S.rotation`, a u2 (R24). -/
  rotation : BitVec 2
  /-- `S.inTx`, the transaction gate (R25): false is Idle, true is Open. -/
  inTx : Bool
  /-- `S.spiFrequency` in Hz (R26). -/
  spiFrequency : U32
  /-- `S.cachedX0` (R27). -/
  cachedX0 : U16
  /-- `S.cachedX1` (R27). -/
  cachedX1 : U16
  /-- `S.cachedY0` (R27). -/
  cachedY0 : U16
  /-- `S.cachedY1` (R27). -/
  cachedY1 : U16
  /-- `S.colStart`, an i16 (R29). -/
  colStart : U16
  /-- `S.rowStart`, an i16 (R29). -/
  rowStart : U16
  /-- `S.madctl` (R30). -/
  madctl : Byte
  /-- `S.backlightLevel` (R31). -/
  backlightLevel : Byte
  /-- `S.initPhase` (R33). -/
  initPhase : InitPhase
  /-- `S.initPtr` (R33). -/
  initPtr : Nat
  /-- `S.buf[0..63]` (R35, R65). -/
  buf : Vector U16 64
  /-- `S.fault[IDLE_STREAM]`, sticky (R36, R282). -/
  faultIdleStream : Bool
  /-- `S.T`, the trace of interface events, oldest first (R37). -/
  trace : List Event
  /-- The values returned so far, oldest first (R295, R296; log 12). -/
  results : List Result
  /-- The bytes of the host requests not yet taken (R90; log 7), one request after another without a boundary (log 22). -/
  hostIn : List Byte
  /-- The bytes of level (b) frames handed to the command engine alone (R3; log 8). -/
  frameIn : List Byte
  /-- The trace index of the event the environment never completes, `none` where it completes all (R61, R287). The environment
  sets it from outside and no operation writes it: DESIGN CHOICE (log 11). -/
  stallAt : Option Nat
  /-- How many free values have been taken: `Config.freeRect`'s next argument (log 13). -/
  freeCount : Nat
  deriving DecidableEq, Repr

/-- Why the machine stops. -/
inductive Fault where
  /-- Raised by `finish` for any instruction one of whose events the environment never completes: the block hangs (R61, R287;
  93 I8, 'stuck'). Safe: the hardware takes no further step either. -/
  | busStalled
  deriving DecidableEq, Repr

/-- Why a request gets no meaning. -/
inductive Refusal where
  /-- Raised by `exec` for an instruction that has no meaning yet; no arm does. Safe. -/
  | notModelled (mnemonic : String)
  /-- Raised by `step` where the pending request bytes spell no operation (R96). Safe: the state does not change. -/
  | illegalRequest (why : DecodeError)
  /-- Raised by `step` where the pending frame bytes spell none of R103's frames (log 8). Safe. -/
  | illegalFrame (why : DecodeError)
  deriving DecidableEq, Repr

/-- Construction from a configuration (R300, R301): every field of R21 at its construction value, no event, no request. The
spec leaves `madctl` and `buf` unspecified: zeros, DESIGN CHOICE, unsafe (log 5, log 6). The spec leaves to the environment
whether every event completes: `stallAt` is `none`, an environment that completes every event, DESIGN CHOICE, unsafe for a
claim about runs from reset, in which no operation then hangs (log 11). The other fields of the model's own start empty or
at 0: DESIGN CHOICE, safe (log 7, log 8, log 12, log 13). -/
def State.construct (cfg : Config) : State where
  cfg := cfg
  width := cfg.rawW
  height := cfg.rawH
  rotation := 0
  inTx := false
  spiFrequency := cfg.spiFreq
  cachedX0 := sentinel
  cachedX1 := sentinel
  cachedY0 := sentinel
  cachedY1 := sentinel
  colStart := 0
  rowStart := 0
  madctl := 0
  backlightLevel := blFull
  initPhase := .uninit
  initPtr := 0
  buf := Vector.replicate 64 0
  faultIdleStream := false
  trace := []
  results := []
  hostIn := []
  frameIn := []
  stallAt := none
  freeCount := 0

/-- The machine right after reset: construction (R300) from the machine's configuration, whose OPEN values are opaque (log 2). -/
def State.reset : State := State.construct Config.machine

end Sys2Proof.Machine
end

