-- ==== Sys2Proof/Machine/Flags.lean ====
section
/-! DEFINITION. The block's flags (spec/10_state.md R36): the transaction gate and the sticky fault bit. It has no condition
codes. -/

namespace Sys2Proof.Machine

/-- Write the transaction gate (R25): false is Idle, true is Open. -/
def setGate (open_ : Bool) (s : State) : State := { s with inTx := open_ }

/-- Set a fault bit (R13). Sticky: nothing clears it (R36). -/
def setFaultBit (n : FaultName) (s : State) : State :=
  match n with
  | .idleStream => { s with faultIdleStream := true }

/-- Read a fault bit. -/
def faultBit (n : FaultName) (s : State) : Bool :=
  match n with
  | .idleStream => s.faultIdleStream

end Sys2Proof.Machine
end

