-- ==== Sys2Proof/Machine/Ops.lean ====
section
/-! DEFINITION. The shared operations: the interface and memory primitives of spec/00_scope.md R11 and R12, raising a fault
(R13), the transaction gate and the command engine (spec/40_transaction.md R130, R131, R133), the register writes several
operations share, and how an operation ends. -/

namespace Sys2Proof.Machine

/-! ## Interface primitives (R11) -/

/-- Append one event to `S.T`. -/
def emit (e : Event) (s : State) : State := { s with trace := s.trace ++ [e] }

/-- `PinSet(PIN_DC, LVL_CMD)`: command mode (R100). -/
def selectCommand (s : State) : State := emit (.pinSet s.cfg.pinDc s.cfg.lvlCmd) s

/-- `PinSet(PIN_DC, LVL_DATA)`: data mode (R101). -/
def selectData (s : State) : State := emit (.pinSet s.cfg.pinDc s.cfg.lvlData) s

/-! ## Memory primitives (R12) -/

/-- `MemRead(INIT, i)` (R64). -/
def memReadInit (s : State) (i : Nat) : Option InitEntry := s.cfg.initTable.entries[i]?

/-- `MemRead(HOST, colors, i)` for `n` successive elements from `i` (R66). -/
def memReadHost (colors : List U16) (i n : Nat) : List U16 := (colors.drop i).take n

/-- `MemWrite(BUF, i, v)` (R65). -/
def memWriteBuf (i : Nat) (v : U16) (s : State) : State := { s with buf := s.buf.setIfInBounds i v }

/-- `MemWrite(BUF, i + k, vs[k])` for each `k`, in order. -/
def memWriteBufs : Nat → List U16 → State → State
  | _, [], s => s
  | i, v :: vs, s => memWriteBufs (i + 1) vs (memWriteBuf i v s)

/-- The bytes of the first `n` slots of BUF, each high byte first (R35, R73). -/
def bufBytes (n : Nat) (s : State) : List Byte := (s.buf.toList.take n).flatMap pixelBytes

/-! ## Raising a fault (R13, R282) -/

/-- `raise Fault(name)`: set the sticky bit, append the event, and go on. The block has no trap: nothing is saved and no
control is transferred (R280, R286), so there is no return either. -/
def raiseFault (n : FaultName) (s : State) : State := emit (.fault n) (setFaultBit n s)

/-! ## The transaction gate (R129 to R131) -/

/-- `startWrite()` (R130): a no-op while Open. -/
def startWrite (s : State) : State :=
  if s.inTx then s
  else
    let s := emit (.busOpen s.spiFrequency s.cfg.bitOrder s.cfg.spiMode) s
    let s := emit (.pinSet s.cfg.pinCs .low) s
    setGate true s

/-- `endWrite()` (R131): a no-op while Idle. -/
def endWrite (s : State) : State :=
  if s.inTx then
    let s := emit (.pinSet s.cfg.pinCs .high) s
    let s := emit .busClose s
    setGate false s
  else s

/-! ## The command engine (R133 to R138) -/

/-- `sendCommand(cmd, data, len, delayMs)` (R133), `len` being `data`'s length (R95). It closes the transaction if and only if
it opened it (R134), selects data mode after the command byte in every case (R135), and sleeps before the close (R136). -/
def sendCommand (cmd : Byte) (data : List Byte) (delayMs : U16) (s : State) : State :=
  let opened := !s.inTx
  let s := if opened then startWrite s else s
  let s := selectCommand s
  let s := emit (.busWriteByte cmd) s
  let s := selectData s
  let s := if data.isEmpty then s else emit (.busWriteBytes data) s
  let s := if delayMs = 0 then s else emit (.sleep (delayOf delayMs)) s
  if opened then endWrite s else s

/-! ## Register writes shared by operations -/

/-- The column pair of the window cache (R27). -/
def setCacheX (x0 x1 : U16) (s : State) : State := { s with cachedX0 := x0, cachedX1 := x1 }

/-- The row pair of the window cache (R27). -/
def setCacheY (y0 y1 : U16) (s : State) : State := { s with cachedY0 := y0, cachedY1 := y1 }

/-- Invalidate the window cache: write `SENTINEL` to its four registers (R28). -/
def invalidateCache (s : State) : State := setCacheY sentinel sentinel (setCacheX sentinel sentinel s)

/-- Return a value to the host (R295; log 12). -/
def returnValue (v : Result) (s : State) : State := { s with results := s.results ++ [v] }

/-! ## The end of an operation (R61, R287) -/

/-- An event the environment must complete; a `Fault` event is a record of the model's, not an interface event (R60). -/
def needsCompletion : Event → Bool
  | .fault _ => false
  | .busInit _ _ | .busOpen _ _ _ | .busClose | .busWriteByte _ | .busWriteBytes _ | .pinConfigOut _ | .pinSet _ _
  | .sleep _ => true

/-- The environment never completes one of the events between the traces of `s` and `t` (R61). -/
def stalls (s t : State) : Bool :=
  match s.stallAt with
  | none => false
  | some k =>
    if k < s.trace.length then false
    else
      match t.trace[k]? with
      | none => false
      | some e => needsCompletion e

/-- How an operation from `s` ends, `t` being the state its rule gives: it returns with `t`, or, where one of its events never
completes, it never returns (R287; log 11). -/
def finish (s t : State) : Host.Outcome State Fault Refusal :=
  if stalls s t then .fault .busStalled else .next t

end Sys2Proof.Machine
end

