-- ==== Sys2Proof/Machine/Wire.lean ====
section
/-! DEFINITION. Level (b): the frames the block itself composes (spec/30_encoding.md R103), each sent through the command
engine (R138, R184), and the meanings of the table's seven WIRE_CMD rows. A row's meaning is the frame and nothing else: the
registers around a frame are written by the operation that composes it (R182, R230), as R137 says of the engine. DEDUCED,
unsafe (log 10). -/

namespace Sys2Proof.Machine

/-- The column-range frame (R103, R181). -/
def sendCaset (x0 x1 : U16) (s : State) : State := sendCommand s.cfg.cmdCaset (rangeBytes x0 x1) 0 s

/-- The row-range frame (R103, R181). -/
def sendRaset (y0 y1 : U16) (s : State) : State := sendCommand s.cfg.cmdRaset (rangeBytes y0 y1) 0 s

/-- The begin-memory-write frame (R103, R183). -/
def sendRamwr (s : State) : State := sendCommand s.cfg.cmdRamwr [] 0 s

/-- The orientation frame (R103, R230). -/
def sendMadctl (m : Byte) (s : State) : State := sendCommand s.cfg.cmdMadctl [m] 0 s

/-- The invert-on or invert-off frame (R103, R233). -/
def sendInvert (on : Bool) (s : State) : State :=
  sendCommand (if on then s.cfg.cmdInvon else s.cfg.cmdInvoff) [] 0 s

/-- The software-reset frame and its wait (R103, R153). -/
def sendSwreset (s : State) : State := sendCommand s.cfg.cmdSwreset [] tSwreset s

/-- CASET (R103). -/
def execCaset (x0 x1 : U16) (s : State) : Host.Outcome State Fault Refusal := finish s (sendCaset x0 x1 s)

/-- RASET (R103). -/
def execRaset (y0 y1 : U16) (s : State) : Host.Outcome State Fault Refusal := finish s (sendRaset y0 y1 s)

/-- RAMWR (R103). -/
def execRamwr (s : State) : Host.Outcome State Fault Refusal := finish s (sendRamwr s)

/-- MADCTL (R103). -/
def execMadctl (m : Byte) (s : State) : Host.Outcome State Fault Refusal := finish s (sendMadctl m s)

/-- INVON (R103). -/
def execInvon (s : State) : Host.Outcome State Fault Refusal := finish s (sendInvert true s)

/-- INVOFF (R103). -/
def execInvoff (s : State) : Host.Outcome State Fault Refusal := finish s (sendInvert false s)

/-- SWRESET (R103, R153). -/
def execSwreset (s : State) : Host.Outcome State Fault Refusal := finish s (sendSwreset s)

end Sys2Proof.Machine
end

