-- ==== Sys2Proof/Machine/AddressWindow.lean ====
section
/-! DEFINITION. The address-window cache and comparator (spec/42_address_window.md): SET_ADDR_WINDOW. Coordinates are
mathematical integers until R180's `u16(…)` (R9). -/

namespace Sys2Proof.Machine

/-- The first bound of a range: `u16(x + start)` (R180). -/
def boundLo (x : Int) (start : U16) : U16 := u16OfInt (x + coord start)

/-- The last bound of a range: `u16(x + start + w - 1)` (R180). -/
def boundHi (x : Int) (start : U16) (w : Int) : U16 := u16OfInt (x + coord start + w - 1)

/-- The column comparator (R181) and, on a miss, the column frame and the cache update (R182). -/
def updateColumns (xa xb : U16) (s : State) : State :=
  if xa ≠ s.cachedX0 ∨ xb ≠ s.cachedX1 then setCacheX xa xb (sendCaset xa xb s) else s

/-- The row comparator (R181) and, on a miss, the row frame and the cache update (R182). -/
def updateRows (ya yb : U16) (s : State) : State :=
  if ya ≠ s.cachedY0 ∨ yb ≠ s.cachedY1 then setCacheY ya yb (sendRaset ya yb s) else s

/-- `setAddrWindow(x, y, w, h)` (R180): no guard and no clipping (R186), begin-memory-write always (R183). -/
def setAddrWindow (x y w h : Int) (s : State) : State :=
  let xa := boundLo x s.colStart
  let xb := boundHi x s.colStart w
  let ya := boundLo y s.rowStart
  let yb := boundHi y s.rowStart h
  sendRamwr (updateRows ya yb (updateColumns xa xb s))

/-- SET_ADDR_WINDOW (R180). -/
def execSetAddrWindow (x y w h : U16) (s : State) : Host.Outcome State Fault Refusal :=
  finish s (setAddrWindow (coord x) (coord y) (coord w) (coord h) s)

end Sys2Proof.Machine
end

