-- ==== Sys2Proof/Machine/Control.lean ====
section
/-! DEFINITION. Orientation, inversion, backlight and accessors (spec/44_control.md): SET_ROTATION, INVERT_DISPLAY,
SET_BACKLIGHT, SET_BACKLIGHT_LEVEL, GET_WIDTH, GET_HEIGHT, GET_ROTATION. -/

namespace Sys2Proof.Machine

/-- The base geometry update (R230, R258): store the rotation; an odd one swaps the raw dimensions (R23). -/
def setGeometry (r : BitVec 2) (s : State) : State :=
  if r = 1 ∨ r = 3 then { s with rotation := r, width := s.cfg.rawH, height := s.cfg.rawW }
  else { s with rotation := r, width := s.cfg.rawW, height := s.cfg.rawH }

/-- `MADCTL_TABLE[r]` (R30). -/
def madctlEntry (cfg : Config) (r : BitVec 2) : Byte := cfg.madctlTable[r.toNat]'r.isLt

/-- Write `S.madctl` (R230). -/
def setMadctl (m : Byte) (s : State) : State := { s with madctl := m }

/-- `S.colStart <- 0 ; S.rowStart <- 0` (R230). -/
def clearOffsets (s : State) : State := { s with colStart := 0, rowStart := 0 }

/-- `setRotation(r)` with `r & 3` given (R230): geometry first, then the driver part, on every call (90_conflicts C9). -/
def applyRotation (r : BitVec 2) (s : State) : State :=
  let s := setGeometry r s
  let s := setMadctl (madctlEntry s.cfg s.rotation) s
  let s := clearOffsets s
  let s := invalidateCache s
  sendMadctl s.madctl s

/-- Store the backlight level (R31). -/
def storeBacklight (level : Byte) (s : State) : State := { s with backlightLevel := level }

/-- `setBacklight(on)` (R236): without a backlight pin nothing is emitted and nothing stored. -/
def setBacklight (on : Bool) (s : State) : State :=
  match s.cfg.pinBl with
  | none => s
  | some p => storeBacklight (if on then blFull else 0) (emit (.pinSet p (if on then .high else .low)) s)

/-- `setBacklightLevel(level)` (R237): the pin is binary, the level stored verbatim. -/
def setBacklightLevel (level : Byte) (s : State) : State :=
  match s.cfg.pinBl with
  | none => s
  | some p => storeBacklight level (emit (.pinSet p (if level ≠ 0 then .high else .low)) s)

/-- SET_ROTATION (R230, R231). -/
def execSetRotation (r : Byte) (s : State) : Host.Outcome State Fault Refusal :=
  finish s (applyRotation (rotationOf r) s)

/-- INVERT_DISPLAY (R233). -/
def execInvertDisplay (invert : Bool) (s : State) : Host.Outcome State Fault Refusal :=
  finish s (sendInvert invert s)

/-- SET_BACKLIGHT (R236). -/
def execSetBacklight (on : Bool) (s : State) : Host.Outcome State Fault Refusal := finish s (setBacklight on s)

/-- SET_BACKLIGHT_LEVEL (R237). -/
def execSetBacklightLevel (level : Byte) (s : State) : Host.Outcome State Fault Refusal :=
  finish s (setBacklightLevel level s)

/-- GET_WIDTH (R238). -/
def execGetWidth (s : State) : Host.Outcome State Fault Refusal := finish s (returnValue (.u16 s.width) s)

/-- GET_HEIGHT (R239). -/
def execGetHeight (s : State) : Host.Outcome State Fault Refusal := finish s (returnValue (.u16 s.height) s)

/-- GET_ROTATION (R240). -/
def execGetRotation (s : State) : Host.Outcome State Fault Refusal :=
  finish s (returnValue (.u8 (rotationByte s.rotation)) s)

end Sys2Proof.Machine
end

