-- ==== Sys2Proof/Machine/PixelStream.lean ====
section
/-! DEFINITION. The pixel stream engines (spec/43_pixel_stream.md): WRITE_COLOR_REPEATED, WRITE_PIXEL, WRITE_PIXELS,
WRITE_FAST_HLINE, WRITE_FAST_VLINE, WRITE_FILL_RECT. -/

namespace Sys2Proof.Machine

/-- `streamGuard()` (43, before R200; R282): raise IDLE_STREAM with the gate Idle; the stream goes on. -/
def streamGuard (s : State) : State := if s.inTx then s else raiseFault .idleStream s

/-- One chunk: the first `n` slots of BUF as one `BusWriteBytes` (R77). -/
def sendChunk (n : Nat) (s : State) : State := emit (.busWriteBytes (bufBytes n s)) s

/-- The chunk loop of R200, `rem` pixels left; `fuel` bounds the chunks. -/
def repeatChunks : (fuel rem : Nat) → State → State
  | 0, _, s => s
  | fuel + 1, rem, s =>
    if rem = 0 then s
    else repeatChunks fuel (rem - min rem chunkPixels) (sendChunk (min rem chunkPixels) s)

/-- `writeColorRepeated(color, count)` (R200). -/
def writeColorRepeated (color : U16) (count : Nat) (s : State) : State :=
  if count = 0 then s
  else
    let s := streamGuard s
    let s := selectData s
    let s := memWriteBufs 0 (List.replicate (min count chunkPixels) color) s
    repeatChunks count count s

/-- The chunk loop of R207 from element `i`: load a chunk from HOST into BUF and send it; `fuel` bounds the chunks. -/
def hostChunks (colors : List U16) : (fuel i : Nat) → State → State
  | 0, _, s => s
  | fuel + 1, i, s =>
    if i < colors.length then
      let n := min (colors.length - i) chunkPixels
      hostChunks colors fuel (i + n) (sendChunk n (memWriteBufs 0 (memReadHost colors i n) s))
    else s

/-- `writePixels(colors, len)` (R207); null colours are the empty list (R95). -/
def writePixels (colors : List U16) (s : State) : State :=
  if colors.isEmpty then s
  else
    let s := streamGuard s
    let s := selectData s
    hostChunks colors colors.length 0 s

/-- `x < 0 or y < 0 or x ≥ S.width or y ≥ S.height` (R205, R252). -/
def outOfCanvas (x y : Int) (s : State) : Bool :=
  x < 0 || y < 0 || x ≥ s.width.toNat || y ≥ s.height.toNat

/-- `writePixel(x, y, color)` (R205). -/
def writePixel (x y : Int) (color : U16) (s : State) : State :=
  if outOfCanvas x y s then s
  else
    let s := setAddrWindow x y 1 1 s
    let s := streamGuard s
    let s := selectData s
    emit (.busWriteBytes (pixelBytes color)) s

/-- `writeFastHLine(x, y, w, color)` (R210): no clipping. -/
def writeFastHLine (x y w : Int) (color : U16) (s : State) : State :=
  if w ≤ 0 then s else writeColorRepeated color w.toNat (setAddrWindow x y w 1 s)

/-- `writeFastVLine(x, y, h, color)` (R211): no clipping. -/
def writeFastVLine (x y h : Int) (color : U16) (s : State) : State :=
  if h ≤ 0 then s else writeColorRepeated color h.toNat (setAddrWindow x y 1 h s)

/-- `writeFillRect(x, y, w, h, color)` (R212): no clipping, the product exact. -/
def writeFillRect (x y w h : Int) (color : U16) (s : State) : State :=
  if w ≤ 0 ∨ h ≤ 0 then s else writeColorRepeated color (w * h).toNat (setAddrWindow x y w h s)

/-- WRITE_COLOR_REPEATED (R200, R201). -/
def execWriteColorRepeated (color : U16) (count : U32) (s : State) : Host.Outcome State Fault Refusal :=
  finish s (writeColorRepeated color count.toNat s)

/-- WRITE_PIXEL (R205, R206). -/
def execWritePixel (x y color : U16) (s : State) : Host.Outcome State Fault Refusal :=
  finish s (writePixel (coord x) (coord y) color s)

/-- WRITE_PIXELS (R207, R208). -/
def execWritePixels (colors : List U16) (s : State) : Host.Outcome State Fault Refusal :=
  finish s (writePixels colors s)

/-- WRITE_FAST_HLINE (R210). -/
def execWriteFastHLine (x y w color : U16) (s : State) : Host.Outcome State Fault Refusal :=
  finish s (writeFastHLine (coord x) (coord y) (coord w) color s)

/-- WRITE_FAST_VLINE (R211). -/
def execWriteFastVLine (x y h color : U16) (s : State) : Host.Outcome State Fault Refusal :=
  finish s (writeFastVLine (coord x) (coord y) (coord h) color s)

/-- WRITE_FILL_RECT (R212). -/
def execWriteFillRect (x y w h color : U16) (s : State) : Host.Outcome State Fault Refusal :=
  finish s (writeFillRect (coord x) (coord y) (coord w) (coord h) color s)

end Sys2Proof.Machine
end

