-- ==== Sys2Proof/Machine/FrontEnd.lean ====
section
/-! DEFINITION. The front end (spec/45_front_end.md): CLIP_RECT, DRAW_PIXEL, DRAW_FAST_HLINE, DRAW_FAST_VLINE, FILL_RECT,
FILL_SCREEN. -/

namespace Sys2Proof.Machine

/-- `clipRect(x, y, w, h)` on a canvas (R250): `none` is its false result; all arithmetic is on integers. -/
def clip (width height : U16) (x y w h : Int) : Option (Int × Int × Int × Int) :=
  if w ≤ 0 ∨ h ≤ 0 then none
  else
    let x0 := max x 0
    let y0 := max y 0
    let x1 := min (x + w) width.toNat
    let y1 := min (y + h) height.toNat
    if x1 ≤ x0 ∨ y1 ≤ y0 then none else some (x0, y0, x1 - x0, y1 - y0)

/-- Take the next free rectangle's number (log 13). -/
def takeFree (s : State) : State := { s with freeCount := s.freeCount + 1 }

/-- CLIP_RECT's returned value (R250): on false the rectangle is a FREE VALUE (I4; log 13). -/
def clipRect (x y w h : Int) (s : State) : State :=
  match clip s.width s.height x y w h with
  | some (x', y', w', h') =>
    returnValue (.clip true ⟨u16OfInt x', u16OfInt y', u16OfInt w', u16OfInt h'⟩) s
  | none => takeFree (returnValue (.clip false (Config.freeRect s.freeCount)) s)

/-- Run a driver primitive inside one bracket (R257). -/
def bracketed (op : State → State) (s : State) : State := endWrite (op (startWrite s))

/-- `drawPixel(x, y, color)` (R252). -/
def drawPixel (x y : Int) (color : U16) (s : State) : State :=
  if outOfCanvas x y s then s else bracketed (writePixel x y color) s

/-- `drawFastHLine(x, y, w, color)` (R253). -/
def drawFastHLine (x y w : Int) (color : U16) (s : State) : State :=
  match clip s.width s.height x y w 1 with
  | none => s
  | some (x', y', w', _) => bracketed (writeFastHLine x' y' w' color) s

/-- `drawFastVLine(x, y, h, color)` (R254). -/
def drawFastVLine (x y h : Int) (color : U16) (s : State) : State :=
  match clip s.width s.height x y 1 h with
  | none => s
  | some (x', y', _, h') => bracketed (writeFastVLine x' y' h' color) s

/-- `fillRect(x, y, w, h, color)` (R255). -/
def fillRect (x y w h : Int) (color : U16) (s : State) : State :=
  match clip s.width s.height x y w h with
  | none => s
  | some (x', y', w', h') => bracketed (writeFillRect x' y' w' h' color) s

/-- `fillScreen(color)`: `fillRect(0, 0, S.width, S.height, color)` (R256), the dimensions as integers (log 14). -/
def fillScreen (color : U16) (s : State) : State := fillRect 0 0 s.width.toNat s.height.toNat color s

/-- CLIP_RECT (R250). -/
def execClipRect (x y w h : U16) (s : State) : Host.Outcome State Fault Refusal :=
  finish s (clipRect (coord x) (coord y) (coord w) (coord h) s)

/-- DRAW_PIXEL (R252). -/
def execDrawPixel (x y color : U16) (s : State) : Host.Outcome State Fault Refusal :=
  finish s (drawPixel (coord x) (coord y) color s)

/-- DRAW_FAST_HLINE (R253). -/
def execDrawFastHLine (x y w color : U16) (s : State) : Host.Outcome State Fault Refusal :=
  finish s (drawFastHLine (coord x) (coord y) (coord w) color s)

/-- DRAW_FAST_VLINE (R254). -/
def execDrawFastVLine (x y h color : U16) (s : State) : Host.Outcome State Fault Refusal :=
  finish s (drawFastVLine (coord x) (coord y) (coord h) color s)

/-- FILL_RECT (R255). -/
def execFillRect (x y w h color : U16) (s : State) : Host.Outcome State Fault Refusal :=
  finish s (fillRect (coord x) (coord y) (coord w) (coord h) color s)

/-- FILL_SCREEN (R256). -/
def execFillScreen (color : U16) (s : State) : Host.Outcome State Fault Refusal := finish s (fillScreen color s)

end Sys2Proof.Machine
end

