-- ==== Sys2Proof/Machine/InitSequencer.lean ====
section
/-! DEFINITION. Bring-up and the initialization state machine (spec/41_init_sequencer.md): BEGIN. The phases are R161's. -/

namespace Sys2Proof.Machine

/-- Write the init sequencer's pointer (R33). -/
def setInitPtr (p : Nat) (s : State) : State := { s with initPtr := p }

/-- Write the visible phase (R33). -/
def setInitPhase (p : InitPhase) (s : State) : State := { s with initPhase := p }

/-- The speed override (R151): a positive speed replaces the frequency, and persists. -/
def overrideSpeed (speed : U32) (s : State) : State :=
  if 0 < speed then { s with spiFrequency := speed } else s

/-- Configure an optional pin as an output and drive it, where the pin is present (R150). -/
def configurePin (p : Option PinId) (lvl : Level) (s : State) : State :=
  match p with
  | none => s
  | some p => emit (.pinSet p lvl) (emit (.pinConfigOut p) s)

/-- Phase CFG (R151). `PIN_DC` is configured and not driven. -/
def configurePins (speed : U32) (s : State) : State :=
  let s := overrideSpeed speed s
  let s := emit (.pinConfigOut s.cfg.pinDc) s
  let s := emit (.pinConfigOut s.cfg.pinCs) s
  let s := emit (.pinSet s.cfg.pinCs .high) s
  let s := configurePin s.cfg.pinRst .high s
  configurePin s.cfg.pinBl .low s

/-- Phase BUSINIT (R152). -/
def initBus (s : State) : State := emit (.busInit s.cfg.pinSclk s.cfg.pinMosi) s

/-- `hardwareReset()` (R153): the reset pin's pulse, or the software reset where the pin is absent. -/
def hardwareReset (s : State) : State :=
  match s.cfg.pinRst with
  | some p =>
    let s := emit (.sleep tRstHigh) (emit (.pinSet p .high) s)
    let s := emit (.sleep tRstLow) (emit (.pinSet p .low) s)
    emit (.sleep tRstSettle) (emit (.pinSet p .high) s)
  | none => sendSwreset s

/-- ISSUE (R156): send one entry. -/
def issueEntry (e : InitEntry) (s : State) : State := sendCommand e.commandByte e.payloadBytes e.postDelayMs s

/-- The FETCH and ISSUE loop (R156, R157) from `S.initPtr`; `fuel` bounds the entries. A well-formed table ends it at a
sentinel, so the table's end is never reached (R33). -/
def replay : (fuel : Nat) → State → State
  | 0, s => s
  | fuel + 1, s =>
    match memReadInit s s.initPtr with
    | none => s
    | some e => if e.isSentinel then s else replay fuel (setInitPtr (s.initPtr + 1) (issueEntry e s))

/-- Phases OPEN, FETCH and ISSUE (R155 to R157). -/
def replayTable (s : State) : State :=
  let s := startWrite s
  let s := setInitPtr 0 s
  replay s.cfg.initTable.entries.length s

/-- `begin(speed)` (R150), in the source's order; entered with the gate Open it runs the same (R163). It returns true (R160). -/
def bringUp (speed : U32) (s : State) : State :=
  let s := configurePins speed s
  let s := initBus s
  let s := hardwareReset s
  let s := replayTable s
  let s := applyRotation s.rotation s
  let s := endWrite s
  let s := setBacklightLevel blFull s
  let s := setInitPhase .ready s
  returnValue (.bool true) s

/-- BEGIN (R150). -/
def execBegin (speed : U32) (s : State) : Host.Outcome State Fault Refusal := finish s (bringUp speed s)

end Sys2Proof.Machine
end

