-- ==== Sys2Proof/Machine/Transaction.lean ====
section
/-! DEFINITION. Meanings of the transaction family (spec/40_transaction.md): START_WRITE, END_WRITE, SEND_COMMAND. -/

namespace Sys2Proof.Machine

/-- START_WRITE (R130). -/
def execStartWrite (s : State) : Host.Outcome State Fault Refusal := finish s (startWrite s)

/-- END_WRITE (R131). -/
def execEndWrite (s : State) : Host.Outcome State Fault Refusal := finish s (endWrite s)

/-- SEND_COMMAND (R133); it never touches the window cache or `S.madctl`, whatever the command byte (R137, R312). -/
def execSendCommand (cmd : Byte) (delayMs : U16) (data : List Byte) (s : State) : Host.Outcome State Fault Refusal :=
  finish s (sendCommand cmd data delayMs s)

end Sys2Proof.Machine
end

