-- ==== Sys2Proof/Machine/Dispatch.lean ====
section
/-! DEFINITION. One arm per instruction of spec/opcode_table.json: the 24 host requests, then the seven composed frames. -/

namespace Sys2Proof.Machine

def exec (i : Instr) (s : State) : Host.Outcome State Fault Refusal :=
  match i with
  | .begin speed => Sys2Proof.Machine.execBegin speed s
  | .startWrite => Sys2Proof.Machine.execStartWrite s
  | .endWrite => Sys2Proof.Machine.execEndWrite s
  | .sendCommand cmd delayMs data => Sys2Proof.Machine.execSendCommand cmd delayMs data s
  | .setAddrWindow x y w h => Sys2Proof.Machine.execSetAddrWindow x y w h s
  | .writeColorRepeated color count => Sys2Proof.Machine.execWriteColorRepeated color count s
  | .writePixel x y color => Sys2Proof.Machine.execWritePixel x y color s
  | .writePixels colors => Sys2Proof.Machine.execWritePixels colors s
  | .writeFastHLine x y w color => Sys2Proof.Machine.execWriteFastHLine x y w color s
  | .writeFastVLine x y h color => Sys2Proof.Machine.execWriteFastVLine x y h color s
  | .writeFillRect x y w h color => Sys2Proof.Machine.execWriteFillRect x y w h color s
  | .setRotation r => Sys2Proof.Machine.execSetRotation r s
  | .invertDisplay invert => Sys2Proof.Machine.execInvertDisplay invert s
  | .setBacklight on => Sys2Proof.Machine.execSetBacklight on s
  | .setBacklightLevel level => Sys2Proof.Machine.execSetBacklightLevel level s
  | .getWidth => Sys2Proof.Machine.execGetWidth s
  | .getHeight => Sys2Proof.Machine.execGetHeight s
  | .getRotation => Sys2Proof.Machine.execGetRotation s
  | .drawPixel x y color => Sys2Proof.Machine.execDrawPixel x y color s
  | .drawFastHLine x y w color => Sys2Proof.Machine.execDrawFastHLine x y w color s
  | .drawFastVLine x y h color => Sys2Proof.Machine.execDrawFastVLine x y h color s
  | .fillRect x y w h color => Sys2Proof.Machine.execFillRect x y w h color s
  | .fillScreen color => Sys2Proof.Machine.execFillScreen color s
  | .clipRect x y w h => Sys2Proof.Machine.execClipRect x y w h s
  | .caset x0 x1 => Sys2Proof.Machine.execCaset x0 x1 s
  | .raset y0 y1 => Sys2Proof.Machine.execRaset y0 y1 s
  | .ramwr => Sys2Proof.Machine.execRamwr s
  | .madctl m => Sys2Proof.Machine.execMadctl m s
  | .invon => Sys2Proof.Machine.execInvon s
  | .invoff => Sys2Proof.Machine.execInvoff s
  | .swreset => Sys2Proof.Machine.execSwreset s

end Sys2Proof.Machine
end

