-- ==== Sys2Proof/Machine/Fetch.lean ====
section
/-! DEFINITION. Taking the next operation. The block fetches no instruction (spec/10_state.md R34): the host issues one
request at a time (R67), and here its bytes wait in `hostIn` (log 7); a level (b) frame handed to the command engine alone
waits in `frameIn`, and is taken first (log 8). -/

namespace Sys2Proof.Machine

/-- What `fetch` finds. -/
inductive Fetched where
  /-- Nothing is pending: the block is idle between operations (R161). -/
  | idle
  /-- An operation, and the state with its bytes taken. -/
  | run (i : Instr) (s : State)
  /-- Bytes that spell nothing (R96). -/
  | illegal (r : Refusal)
  deriving DecidableEq, Repr

/-- Take a host request (R90). No boundary stands between pending requests: a request ends where its length ends, so a short
one takes the next one's bytes, and it is refused only where all pending bytes end. DESIGN CHOICE, unsafe (log 22). -/
def fetchRequest (s : State) : Fetched :=
  match decodeRequest s.hostIn with
  | .ok (i, rest) => .run i { s with hostIn := rest }
  | .error .empty => .idle
  | .error e => .illegal (.illegalRequest e)

/-- Take a composed frame (R103), by the configuration's command bytes (R7). Pending frames are delimited as pending requests
are (log 22). -/
def fetchFrame (s : State) : Fetched :=
  match decodeFrame s.cfg s.frameIn with
  | .ok (i, rest) => .run i { s with frameIn := rest }
  | .error e => .illegal (.illegalFrame e)

/-- The next operation: a pending frame, else a pending request, else nothing. -/
def fetch (s : State) : Fetched := if s.frameIn.isEmpty then fetchRequest s else fetchFrame s

/-- `s` with these bytes the next that a step takes, on the given level. -/
def placeBytes (l : InstrLevel) (bs : List Byte) (s : State) : State :=
  match l with
  | .request => { s with hostIn := bs, frameIn := [] }
  | .frame => { s with frameIn := bs }

end Sys2Proof.Machine
end

