-- ==== Sys2Proof/Machine/Step.lean ====
section
/-! DEFINITION. One step: take the next operation and run it whole (spec/20_memory.md R67). -/

namespace Sys2Proof.Machine

/-- One atomic transition. With nothing pending the block idles and the state stays (R161, R296; log 7); bytes that spell
nothing are refused and the state does not change (R96). -/
def step (s : State) : Host.Outcome State Fault Refusal :=
  match fetch s with
  | .idle => .next s
  | .run i s' => exec i s'
  | .illegal r => .refused r

/-- `s` with the table word of `nbits` bits `w` as the next operation a step takes: the bytes, with zeros above `nbits`, as
the pending input of the level the word is read on, a frame's command byte being the one of `s`'s configuration. -/
def State.withFetchWord (s : State) (nbits w : Nat) : State :=
  placeBytes (levelOfTableWord nbits w) (bytesOfTableWordIn s.cfg nbits w) s

end Sys2Proof.Machine
end

