-- ==== Sys2Proof/Machine/Effects.lean ====
section
/-! DEFINITION. What the operations do, in closed form: the event lists their rules give, and the state after each, as plain
record updates. No meaning calls these; Laws/ proves that the operations agree with them and the statements are made in
these terms. -/

namespace Sys2Proof.Machine

/-! ## Event lists -/

/-- The events of `startWrite` from Idle (R129). -/
def openEvents (s : State) : List Event :=
  [.busOpen s.spiFrequency s.cfg.bitOrder s.cfg.spiMode, .pinSet s.cfg.pinCs .low]

/-- The events of `endWrite` from Open (R129). -/
def closeEvents (cfg : Config) : List Event := [.pinSet cfg.pinCs .high, .busClose]

/-- A command frame inside an Open gate (R133): command mode, the command byte, data mode, the payload if any, the delay if
not zero. -/
def frameEvents (cfg : Config) (cmd : Byte) (data : List Byte) (delayMs : U16) : List Event :=
  [.pinSet cfg.pinDc cfg.lvlCmd, .busWriteByte cmd, .pinSet cfg.pinDc cfg.lvlData] ++
  (if data = [] then [] else [.busWriteBytes data]) ++
  (if delayMs = 0 then [] else [.sleep (delayOf delayMs)])

/-- The events of `sendCommand` (R133, R134): the frame, in a transaction of its own where the gate is Idle. -/
def commandEvents (s : State) (cmd : Byte) (data : List Byte) (delayMs : U16) : List Event :=
  if s.inTx then frameEvents s.cfg cmd data delayMs
  else openEvents s ++ frameEvents s.cfg cmd data delayMs ++ closeEvents s.cfg

/-- The column comparator misses (R181). -/
def missX (s : State) (xa xb : U16) : Bool := xa != s.cachedX0 || xb != s.cachedX1

/-- The row comparator misses (R181). -/
def missY (s : State) (ya yb : U16) : Bool := ya != s.cachedY0 || yb != s.cachedY1

/-- The events of `setAddrWindow` on computed bounds (R181, R183). -/
def windowEvents (s : State) (xa xb ya yb : U16) : List Event :=
  (if missX s xa xb then commandEvents s s.cfg.cmdCaset (rangeBytes xa xb) 0 else []) ++
  (if missY s ya yb then commandEvents s s.cfg.cmdRaset (rangeBytes ya yb) 0 else []) ++
  commandEvents s s.cfg.cmdRamwr [] 0

/-- The events before a stream's first chunk: the fault with the gate Idle (R282), then data mode. -/
def streamHead (s : State) : List Event :=
  (if s.inTx then [] else [.fault .idleStream]) ++ [.pinSet s.cfg.pinDc s.cfg.lvlData]

/-- A chunk of `n` pixels of one colour. -/
def solidChunk (color : U16) (n : Nat) : Event := .busWriteBytes (List.replicate n (pixelBytes color)).flatten

/-- The chunks of `count` pixels of one colour (R200): full ones of 64, then the remainder if there is one. -/
def solidChunks (color : U16) (count : Nat) : List Event :=
  List.replicate (count / 64) (solidChunk color 64) ++ (if count % 64 = 0 then [] else [solidChunk color (count % 64)])

/-- The chunks of a colour sequence (R207, R208): `ceil(len/64)` of them, chunk `k` holding elements from `64·k` on. -/
def hostChunkEvents (colors : List U16) : List Event :=
  (List.range ((colors.length + 63) / 64)).map fun k =>
    .busWriteBytes (((colors.drop (64 * k)).take 64).flatMap pixelBytes)

/-- Phase CFG and BUSINIT's events (R150 to R152). -/
def configureEvents (cfg : Config) : List Event :=
  [.pinConfigOut cfg.pinDc, .pinConfigOut cfg.pinCs, .pinSet cfg.pinCs .high] ++
  (match cfg.pinRst with | none => [] | some p => [.pinConfigOut p, .pinSet p .high]) ++
  (match cfg.pinBl with | none => [] | some p => [.pinConfigOut p, .pinSet p .low]) ++
  [.busInit cfg.pinSclk cfg.pinMosi]

/-- The hardware reset's events (R153). -/
def resetEvents (s : State) : List Event :=
  match s.cfg.pinRst with
  | some p => [.pinSet p .high, .sleep 10, .pinSet p .low, .sleep 20, .pinSet p .high, .sleep 120]
  | none => commandEvents s s.cfg.cmdSwreset [] 150

/-- The entries the replay sends: those before the first sentinel (R157). -/
def replayed (cfg : Config) : List InitEntry := cfg.initTable.entries.takeWhile (!·.isSentinel)

/-- The replay's events inside the open transaction (R156). -/
def replayEvents (cfg : Config) : List Event :=
  (replayed cfg).flatMap fun e => frameEvents cfg e.commandByte e.payloadBytes e.postDelayMs

/-- The events of `begin` (R150), `s` holding the frequency already overridden: from Idle the replay opens a transaction,
from Open it does not (R163). -/
def beginEvents (s : State) : List Event :=
  configureEvents s.cfg ++ resetEvents s ++ (if s.inTx then [] else openEvents s) ++ replayEvents s.cfg ++
  frameEvents s.cfg s.cfg.cmdMadctl [madctlEntry s.cfg s.rotation] 0 ++ closeEvents s.cfg ++
  (match s.cfg.pinBl with | none => [] | some p => [.pinSet p .high])

/-! ## States after -/

/-- The state with events appended to its trace. -/
def State.log (s : State) (es : List Event) : State := { s with trace := s.trace ++ es }

/-- The state after `sendCommand`: its events and nothing else (R137). -/
def State.afterCommand (s : State) (cmd : Byte) (data : List Byte) (delayMs : U16) : State :=
  s.log (commandEvents s cmd data delayMs)

/-- The state after `setAddrWindow` on computed bounds: its events, and the cache at the bounds (R182). -/
def State.afterBounds (s : State) (xa xb ya yb : U16) : State :=
  { s.log (windowEvents s xa xb ya yb) with cachedX0 := xa, cachedX1 := xb, cachedY0 := ya, cachedY1 := yb }

/-- The state after `setAddrWindow(x, y, w, h)` (R180): bounds on integers, truncated to 16 bits. -/
def State.afterWindow (s : State) (x y w h : Int) : State :=
  s.afterBounds (BitVec.ofInt 16 (x + s.colStart.toInt)) (BitVec.ofInt 16 (x + s.colStart.toInt + w - 1))
    (BitVec.ofInt 16 (y + s.rowStart.toInt)) (BitVec.ofInt 16 (y + s.rowStart.toInt + h - 1))

/-- The fault bit after a stream: set if the gate was Idle, else as it was (R282). -/
def faultAfterStream (s : State) : Bool := s.faultIdleStream || !s.inTx

/-- BUF after `n` slots took a colour (R200). -/
def paintBuf (b : Vector U16 64) (n : Nat) (color : U16) : Vector U16 64 :=
  Vector.ofFn fun j => if j.val < n then color else b[j.val]

/-- BUF after a colour sequence went through it (R207): slot `j` holds the last element whose index is `j` modulo 64. -/
def streamBuf (b : Vector U16 64) (colors : List U16) : Vector U16 64 :=
  Vector.ofFn fun j => colors.getD (j.val + 64 * ((colors.length - 1 - j.val) / 64)) b[j.val]

/-- The state after `writeColorRepeated(color, count)` (R200, R201). -/
def State.afterFill (s : State) (color : U16) (count : Nat) : State :=
  if count = 0 then s
  else { s.log (streamHead s ++ solidChunks color count) with
    faultIdleStream := faultAfterStream s, buf := paintBuf s.buf count color }

/-- The state after `writePixels(colors, len)` (R207, R208). -/
def State.afterPixels (s : State) (colors : List U16) : State :=
  if colors = [] then s
  else { s.log (streamHead s ++ hostChunkEvents colors) with
    faultIdleStream := faultAfterStream s, buf := streamBuf s.buf colors }

/-- The state after a stream of one pixel that does not pass through BUF (R205). -/
def State.afterPixel (s : State) (color : U16) : State :=
  { s.log (streamHead s ++ [.busWriteBytes (pixelBytes color)]) with faultIdleStream := faultAfterStream s }

/-- The state after `startWrite` (R130). -/
def State.afterOpen (s : State) : State := if s.inTx then s else { s.log (openEvents s) with inTx := true }

/-- The state after `endWrite` (R131). -/
def State.afterClose (s : State) : State := if s.inTx then { s.log (closeEvents s.cfg) with inTx := false } else s

/-- The width R23 gives for a rotation. -/
def rotatedWidth (cfg : Config) (r : BitVec 2) : U16 := if r = 1 ∨ r = 3 then cfg.rawH else cfg.rawW

/-- The height R23 gives for a rotation. -/
def rotatedHeight (cfg : Config) (r : BitVec 2) : U16 := if r = 1 ∨ r = 3 then cfg.rawW else cfg.rawH

/-- The registers `setRotation` writes (R230), before its frame. -/
def State.rotated (s : State) (r : BitVec 2) : State :=
  { s with
    rotation := r, width := rotatedWidth s.cfg r, height := rotatedHeight s.cfg r, madctl := madctlEntry s.cfg r,
    colStart := 0, rowStart := 0, cachedX0 := 0xFFFF, cachedX1 := 0xFFFF, cachedY0 := 0xFFFF, cachedY1 := 0xFFFF }

/-- The state after `setRotation` (R230). -/
def State.afterRotation (s : State) (r : BitVec 2) : State :=
  (s.rotated r).afterCommand s.cfg.cmdMadctl [madctlEntry s.cfg r] 0

/-- The state with the speed override applied (R151). -/
def State.withSpeed (s : State) (speed : U32) : State :=
  { s with spiFrequency := if 0 < speed then speed else s.spiFrequency }

/-- The state after `begin(speed)` (R150, R302). -/
def State.afterBegin (s : State) (speed : U32) : State :=
  { (s.withSpeed speed).rotated s.rotation with
    trace := s.trace ++ beginEvents (s.withSpeed speed)
    inTx := false
    backlightLevel := if s.cfg.pinBl = none then s.backlightLevel else 255
    initPhase := .ready
    initPtr := (replayed s.cfg).length
    results := s.results ++ [.bool true] }

/-- The state after an operation that runs inside one bracket of its own (R257). -/
def State.bracketedBy (s : State) (f : State → State) : State := (f s.afterOpen).afterClose

/-- The state after `clipRect` (R250). -/
def State.afterClip (s : State) (x y w h : Int) : State :=
  match clip s.width s.height x y w h with
  | some (x', y', w', h') =>
    { s with results := s.results ++
        [.clip true ⟨BitVec.ofInt 16 x', BitVec.ofInt 16 y', BitVec.ofInt 16 w', BitVec.ofInt 16 h'⟩] }
  | none =>
    { s with results := s.results ++ [.clip false (Config.freeRect s.freeCount)], freeCount := s.freeCount + 1 }

/-- The state after `fillRect` (R255). -/
def State.afterFillRect (s : State) (x y w h : Int) (color : U16) : State :=
  match clip s.width s.height x y w h with
  | some (x', y', w', h') => s.bracketedBy fun s => (s.afterWindow x' y' w' h').afterFill color (w' * h').toNat
  | none => s

/-- The state after the backlight pin is driven and a level stored (R236, R237); without the pin nothing. -/
def State.afterBacklight (s : State) (level : Byte) (on : Bool) : State :=
  match s.cfg.pinBl with
  | some p => { s.log [.pinSet p (if on then .high else .low)] with backlightLevel := level }
  | none => s

/-- The state each instruction's rule gives, for an environment that completes every event. -/
def effect (i : Instr) (s : State) : State :=
  match i with
  | .begin speed => s.afterBegin speed
  | .startWrite => s.afterOpen
  | .endWrite => s.afterClose
  | .sendCommand cmd delayMs data => s.afterCommand cmd data delayMs
  | .setAddrWindow x y w h => s.afterWindow x.toInt y.toInt w.toInt h.toInt
  | .writeColorRepeated color count => s.afterFill color count.toNat
  | .writePixel x y color =>
    if outOfCanvas x.toInt y.toInt s then s else (s.afterWindow x.toInt y.toInt 1 1).afterPixel color
  | .writePixels colors => s.afterPixels colors
  | .writeFastHLine x y w color =>
    if w.toInt ≤ 0 then s else (s.afterWindow x.toInt y.toInt w.toInt 1).afterFill color w.toInt.toNat
  | .writeFastVLine x y h color =>
    if h.toInt ≤ 0 then s else (s.afterWindow x.toInt y.toInt 1 h.toInt).afterFill color h.toInt.toNat
  | .writeFillRect x y w h color =>
    if w.toInt ≤ 0 ∨ h.toInt ≤ 0 then s
    else (s.afterWindow x.toInt y.toInt w.toInt h.toInt).afterFill color (w.toInt * h.toInt).toNat
  | .setRotation r => s.afterRotation (r.setWidth 2)
  | .invertDisplay invert => s.afterCommand (if invert then s.cfg.cmdInvon else s.cfg.cmdInvoff) [] 0
  | .setBacklight on => s.afterBacklight (if on then 255 else 0) on
  | .setBacklightLevel level => s.afterBacklight level (level != 0)
  | .getWidth => { s with results := s.results ++ [.u16 s.width] }
  | .getHeight => { s with results := s.results ++ [.u16 s.height] }
  | .getRotation => { s with results := s.results ++ [.u8 (s.rotation.setWidth 8)] }
  | .drawPixel x y color =>
    if outOfCanvas x.toInt y.toInt s then s
    else s.bracketedBy fun s => (s.afterWindow x.toInt y.toInt 1 1).afterPixel color
  | .drawFastHLine x y w color => s.afterFillRect x.toInt y.toInt w.toInt 1 color
  | .drawFastVLine x y h color => s.afterFillRect x.toInt y.toInt 1 h.toInt color
  | .fillRect x y w h color => s.afterFillRect x.toInt y.toInt w.toInt h.toInt color
  | .fillScreen color => s.afterFillRect 0 0 s.width.toNat s.height.toNat color
  | .clipRect x y w h => s.afterClip x.toInt y.toInt w.toInt h.toInt
  | .caset x0 x1 => s.afterCommand s.cfg.cmdCaset (rangeBytes x0 x1) 0
  | .raset y0 y1 => s.afterCommand s.cfg.cmdRaset (rangeBytes y0 y1) 0
  | .ramwr => s.afterCommand s.cfg.cmdRamwr [] 0
  | .madctl m => s.afterCommand s.cfg.cmdMadctl [m] 0
  | .invon => s.afterCommand s.cfg.cmdInvon [] 0
  | .invoff => s.afterCommand s.cfg.cmdInvoff [] 0
  | .swreset => s.afterCommand s.cfg.cmdSwreset [] 150

end Sys2Proof.Machine
end

