-- ==== Sys2Proof/Machine/Observe.lean ====
section
/-! DEFINITION. What an observer reads off a trace: the wire view (spec/20_memory.md R62), pin levels (spec/10_state.md R38),
frames (spec/30_encoding.md R102), the sum of the sleeps (spec/70_reset_and_hazards.md R320), and the observation of a run
(spec/60_exceptions.md R296). None of it is state. -/

namespace Sys2Proof.Machine

/-- A byte of the wire view with the D/C and CS levels it was sent at; `none` is the unknown level (R62). -/
structure WireByte where
  b : Byte
  dc : Option Level
  cs : Option Level
  deriving DecidableEq, Repr

/-- R62's scan from known levels `dc` and `cs`. Where two pins have one id, its events count as D/C's, else as chip-select's:
DESIGN CHOICE, unsafe for such a configuration (log 17). -/
def wireScan (pinDc pinCs : PinId) : (dc cs : Option Level) → List Event → List WireByte
  | _, _, [] => []
  | dc, cs, .pinSet p l :: es =>
    if p = pinDc then wireScan pinDc pinCs (some l) cs es
    else if p = pinCs then wireScan pinDc pinCs dc (some l) es
    else wireScan pinDc pinCs dc cs es
  | dc, cs, .busWriteByte b :: es => ⟨b, dc, cs⟩ :: wireScan pinDc pinCs dc cs es
  | dc, cs, .busWriteBytes bs :: es => bs.map (⟨·, dc, cs⟩) ++ wireScan pinDc pinCs dc cs es
  | dc, cs, .busInit _ _ :: es => wireScan pinDc pinCs dc cs es
  | dc, cs, .busOpen _ _ _ :: es => wireScan pinDc pinCs dc cs es
  | dc, cs, .busClose :: es => wireScan pinDc pinCs dc cs es
  | dc, cs, .pinConfigOut _ :: es => wireScan pinDc pinCs dc cs es
  | dc, cs, .sleep _ :: es => wireScan pinDc pinCs dc cs es
  | dc, cs, .fault _ :: es => wireScan pinDc pinCs dc cs es

/-- The wire view of a state's trace (R62). -/
def wireView (s : State) : List WireByte := wireScan s.cfg.pinDc s.cfg.pinCs none none s.trace

/-- The bytes that reach the controller: those sent with CS LOW (R62). -/
def delivered (s : State) : List WireByte := (wireView s).filter (·.cs == some .low)

/-- The level of a pin after a trace (R38): the last `PinSet`'s, `none` where there was none. -/
def pinLevel (p : PinId) : List Event → Option Level :=
  List.foldl (fun l e => match e with | .pinSet q v => if q = p then some v else l | _ => l) none

/-- The pin has been configured as an output (R38). -/
def pinConfigured (p : PinId) (t : List Event) : Bool := t.contains (.pinConfigOut p)

/-- One byte read into frames: with D/C at `LVL_CMD` it begins a frame, else it is data of the open frame (R62, R102). Where a
configuration gives `LVL_CMD` and `LVL_DATA` one level, a byte at that level begins a frame and a byte at the other level is
data: DESIGN CHOICE, unsafe for such a configuration (log 24). -/
def frameByte (lvlCmd : Level) (dc : Option Level) (fs : List (Byte × List Byte)) (cur : Option (Byte × List Byte))
    (b : Byte) : List (Byte × List Byte) × Option (Byte × List Byte) :=
  if dc = some lvlCmd then (fs ++ cur.toList, some (b, []))
  else (fs, cur.map fun f => (f.1, f.2 ++ [b]))

/-- Bytes read into frames, in order. -/
def frameBytes (lvlCmd : Level) (dc : Option Level) :
    List (Byte × List Byte) × Option (Byte × List Byte) → List Byte → List (Byte × List Byte) × Option (Byte × List Byte)
  | acc, [] => acc
  | acc, b :: bs => frameBytes lvlCmd dc (frameByte lvlCmd dc acc.1 acc.2 b) bs

/-- R102's scan: a frame ends at the next command byte or at `PinSet(PIN_CS, HIGH)`. Where D/C and chip-select have one id, its
events count as D/C's alone and end no frame: DESIGN CHOICE, unsafe for such a configuration (log 17). -/
def frameScan (cfg : Config) (dc : Option Level) (acc : List (Byte × List Byte) × Option (Byte × List Byte)) :
    List Event → List (Byte × List Byte)
  | [] => acc.1 ++ acc.2.toList
  | .pinSet p l :: es =>
    if p = cfg.pinDc then frameScan cfg (some l) acc es
    else if p = cfg.pinCs ∧ l = .high then frameScan cfg dc (acc.1 ++ acc.2.toList, none) es
    else frameScan cfg dc acc es
  | .busWriteByte b :: es => frameScan cfg dc (frameBytes cfg.lvlCmd dc acc [b]) es
  | .busWriteBytes bs :: es => frameScan cfg dc (frameBytes cfg.lvlCmd dc acc bs) es
  | .busInit _ _ :: es => frameScan cfg dc acc es
  | .busOpen _ _ _ :: es => frameScan cfg dc acc es
  | .busClose :: es => frameScan cfg dc acc es
  | .pinConfigOut _ :: es => frameScan cfg dc acc es
  | .sleep _ :: es => frameScan cfg dc acc es
  | .fault _ :: es => frameScan cfg dc acc es

/-- The frames `{CMD; d0, d1, …}` of a list of events (R102). -/
def framesOf (cfg : Config) (es : List Event) : List (Byte × List Byte) := frameScan cfg none ([], none) es

/-- The sum of the `Sleep` fields in milliseconds, a lower bound on the elapsed time (R320). -/
def sleepTotal : List Event → Nat
  | [] => 0
  | .sleep ms :: es => ms.toNat + sleepTotal es
  | .busInit _ _ :: es | .busOpen _ _ _ :: es | .busClose :: es | .busWriteByte _ :: es | .busWriteBytes _ :: es
  | .pinConfigOut _ :: es | .pinSet _ _ :: es | .fault _ :: es => sleepTotal es

/-- `bracketOpen = S.inTx` (R296). -/
def bracketOpen (s : State) : Bool := s.inTx

/-- The observation of a run (R296): its trace and wire view, its final state, its returned values, its fault bits. -/
structure Observation where
  trace : List Event
  wire : List WireByte
  final : State
  results : List Result
  idleStream : Bool
  bracketOpen : Bool
  deriving DecidableEq, Repr

/-- The observation at the end of a run. -/
def observe (s : State) : Observation :=
  ⟨s.trace, wireView s, s, s.results, s.faultIdleStream, bracketOpen s⟩

end Sys2Proof.Machine
end

