-- ==== Sys2Proof/Safety.lean ====
section
/-! DEFINITION. What counts as a well-kept state and a safe run, in the terms the statements use: the invariants the spec gives
the machine, and the host's duties (spec/70_reset_and_hazards.md R303). -/

namespace Sys2Proof.Machine

/-- R23: the canvas geometry follows the rotation. -/
def State.geometry (s : State) : Prop :=
  s.width = (if s.rotation = 1 ∨ s.rotation = 3 then s.cfg.rawH else s.cfg.rawW) ∧
  s.height = (if s.rotation = 1 ∨ s.rotation = 3 then s.cfg.rawW else s.cfg.rawH)

/-- R29: both window offsets are 0. -/
def State.noOffset (s : State) : Prop := s.colStart = 0 ∧ s.rowStart = 0

/-- R132: from gate `g`, `BusOpen` and `BusClose` alternate. -/
def alternates : Bool → List Event → Bool
  | _, [] => true
  | g, .busOpen _ _ _ :: es => !g && alternates true es
  | g, .busClose :: es => g && alternates false es
  | g, .busInit _ _ :: es | g, .busWriteByte _ :: es | g, .busWriteBytes _ :: es | g, .pinConfigOut _ :: es
  | g, .pinSet _ _ :: es | g, .sleep _ :: es | g, .fault _ :: es => alternates g es

/-- The gate after a trace: as the last `BusOpen` or `BusClose` left it, Idle before the first. -/
def gateAfter : List Event → Bool :=
  List.foldl (fun g e => match e with | .busOpen _ _ _ => true | .busClose => false | _ => g) false

/-- R132: each `BusOpen` is immediately followed by `PinSet(cs, LOW)`. -/
def opensAssert (cs : PinId) : List Event → Bool
  | [] => true
  | e :: es => (match e with | .busOpen _ _ _ => es.head? == some (.pinSet cs .low) | _ => true) && opensAssert cs es

/-- R132: each `BusClose` is immediately preceded by `PinSet(cs, HIGH)`; `prev` is the event before. -/
def closesDeassert (cs : PinId) : (prev : Option Event) → List Event → Bool
  | _, [] => true
  | prev, e :: es =>
    (match e with | .busClose => prev == some (.pinSet cs .high) | _ => true) && closesDeassert cs (some e) es

/-- The bracket law of R132, with the gate where the trace left it. -/
def State.bracketLaw (s : State) : Prop :=
  alternates false s.trace = true ∧ gateAfter s.trace = s.inTx ∧ opensAssert s.cfg.pinCs s.trace = true ∧
  closesDeassert s.cfg.pinCs none s.trace = true

/-- An event of a form R60 allows: a byte list is not empty, a sleep is not 0 ms. -/
def eventWf : Event → Bool
  | .busWriteBytes bs => !bs.isEmpty
  | .sleep ms => ms != 0
  | .busInit _ _ | .busOpen _ _ _ | .busClose | .busWriteByte _ | .pinConfigOut _ | .pinSet _ _ | .fault _ => true

/-- Every event of the trace has a form R60 allows. -/
def State.eventsWf (s : State) : Prop := ∀ e ∈ s.trace, eventWf e = true

/-- R13, R36: the sticky bit is set exactly where the trace records the fault. -/
def State.faultRecorded (s : State) : Prop := s.faultIdleStream = true ↔ Event.fault .idleStream ∈ s.trace

/-- Chip-select stands where the gate says: LOW while Open, not LOW while Idle (R129, R100). -/
def State.csFollowsGate (s : State) : Prop := pinLevel s.cfg.pinCs s.trace = some .low ↔ s.inTx = true

/-- The chip-select pin is none of the other pins the block drives; `begin` with shared pins is not the source's (R291). -/
def csAlone (cfg : Config) : Prop :=
  cfg.pinCs ≠ cfg.pinDc ∧ cfg.pinRst ≠ some cfg.pinCs ∧ cfg.pinBl ≠ some cfg.pinCs

/-- Every byte on the wire was sent with CS LOW, so it reached the controller (R62). -/
def State.allDelivered (s : State) : Prop := ∀ b ∈ wireView s, b.cs = some .low

/-- R313: a window whose column pair or row pair computes to the sentinel. -/
def sentinelCollision (s : State) (x y w h : Int) : Prop :=
  (boundLo x s.colStart = sentinel ∧ boundHi x s.colStart w = sentinel) ∨
  (boundLo y s.rowStart = sentinel ∧ boundHi y s.rowStart h = sentinel)

/-- R303 (3): begin is called with the gate Idle. -/
def beginDuty (i : Instr) (s : State) : Prop :=
  match i with
  | .begin _ => s.inTx = false
  | _ => True

/-- A safe and balanced end of a run: no fault recorded, the gate Idle (R296). -/
def State.safeEnd (s : State) : Prop := s.faultIdleStream = false ∧ bracketOpen s = false

/-- The environment completes every event (R61). -/
def State.envCompletes (s : State) : Prop := s.stallAt = none

end Sys2Proof.Machine
end

