-- ==== Sys2Proof/Certificates/Slice0/Obligations.lean ====
section
/-! DEFINITION. The statements for the provers. `s.stallAt = none` says that the environment completes every event (R61; the
field is the model's, log 11); what happens where it does not is `StalledEventHangs`. -/

open Sys2Proof Sys2Proof.Machine

/-! ## Encoding -/

/-- Request words of spec/95_test_vectors.md L2.8 (decision D30), and frames of R103 (the layout: decision D12; the table's
command values: D2, log 3, PRESUMED), written out from the encodings, decode to what they stand for; the range frame also
under every configuration's own command byte (R7). Where a configuration gives that byte to another command too, reading it as
the column range is log 23 (DESIGN CHOICE, unsafe). -/
def Obligations.WrittenWordsDecode : Prop :=
  decodeRequest [0x01, 0x01, 0x9B, 0xFC, 0xC0] = .ok (.begin 27000000, []) ∧
  decodeRequest [0x04, 0x2A, 0x00, 0x00, 0x04, 0x00, 0x00, 0x00, 0xEF] =
    .ok (.sendCommand 0x2A 0 [0x00, 0x00, 0x00, 0xEF], []) ∧
  decodeRequest [0x05, 0xFF, 0xFF, 0x00, 0x00, 0x00, 0x01, 0x00, 0x01] = .ok (.setAddrWindow 0xFFFF 0 1 1, []) ∧
  decodeRequest [0x08, 0x00, 0x00, 0x00, 0x02, 0x12, 0x34, 0xAB, 0xCD] = .ok (.writePixels [0x1234, 0xABCD], []) ∧
  decodeRequest [0x0D, 0x01] = .ok (.invertDisplay true, []) ∧
  decodeRequest [0x25, 0xFF, 0xFB, 0x00, 0xE6, 0x00, 0x14, 0x00, 0x14] = .ok (.clipRect 0xFFFB 0x00E6 0x14 0x14, []) ∧
  decodeFrame Config.machine [0x2A, 0x00, 0x0A, 0x00, 0x0C] = .ok (.caset 0x000A 0x000C, []) ∧
  decodeFrame Config.machine [0x36, 0x48] = .ok (.madctl 0x48, []) ∧
  ∀ cfg : Config, decodeFrame cfg [cfg.cmdCaset, 0x00, 0x0A, 0x00, 0x0C] = .ok (.caset 0x000A 0x000C, [])

/-- R90 to R95: the request record of every well-formed host request reads back as that request, every operand at every
value, whatever follows it. -/
def Obligations.RequestsRoundTrip : Prop :=
  ∀ (i : Instr) (rest : List Byte), i.level = .request → i.wellFormed = true →
    decodeRequest (encode i ++ rest) = .ok (i, rest)

/-- R103 with the command bytes of R7 (layout: decision D12): in every configuration whose seven command bytes differ, the
frame of every level (b) instruction reads back as that instruction. Where two are equal, log 23, `DecodedFramesAreRecords`
says what is read. -/
def Obligations.FramesRoundTrip : Prop :=
  ∀ (cfg : Config) (i : Instr) (rest : List Byte), i.level = .frame → cfg.frameCommands.Nodup →
    decodeFrame cfg (encodeIn cfg i ++ rest) = .ok (i, rest)

/-- R103 with the command bytes of R7 (layout: decision D12), the other direction, in every configuration: whatever the frame
decoder reads is a level (b) instruction whose frame the bytes are; each of the seven command bytes with at least four data
bytes after it is read (two commands with one byte: log 23, the model's choice), and any other command byte is refused by
name (log 8, the model's choice). -/
def Obligations.DecodedFramesAreRecords : Prop :=
  (∀ (cfg : Config) (bs rest : List Byte) (i : Instr), decodeFrame cfg bs = .ok (i, rest) →
    i.level = .frame ∧ bs = encodeIn cfg i ++ rest) ∧
  (∀ (cfg : Config) (cmd : Byte) (bs : List Byte), cmd ∈ cfg.frameCommands → 4 ≤ bs.length →
    ∃ i rest, decodeFrame cfg (cmd :: bs) = .ok (i, rest)) ∧
  (∀ (cfg : Config) (cmd : Byte) (bs : List Byte), cmd ∉ cfg.frameCommands →
    decodeFrame cfg (cmd :: bs) = .error (.unknownFrame cmd))

/-- R90 to R96, the other direction: whatever the decoder reads is a well-formed host request, and the bytes it took are that
request's record, so no other bytes spell it. -/
def Obligations.DecodedRequestsAreRecords : Prop :=
  ∀ (bs rest : List Byte) (i : Instr), decodeRequest bs = .ok (i, rest) →
    i.level = .request ∧ i.wellFormed = true ∧ bs = encode i ++ rest

/-- R97, R99: a serialized init entry whose payload has its stated length reads back. -/
def Obligations.InitEntriesRoundTrip : Prop :=
  ∀ (e : InitEntry) (rest : List Byte), e.wf = true → decodeInitEntry (encodeInitEntry e ++ rest) = .ok (e, rest)

/-- R96 (the spec's decision D30): an unassigned opcode, a bool operand other than 0x00 and 0x01, and a request shorter than
its length, all of the pending input, are refused, each by its name; a refusal carries no next state. A short request with
more input behind it is log 22, the model's choice, and nothing is stated of it. -/
def Obligations.IllegalRequestsRefused : Prop :=
  (∀ (s : State) (op : Byte) (rest : List Byte), s.frameIn = [] → s.hostIn = op :: rest →
    (op.toNat = 0x00 ∨ (0x13 ≤ op.toNat ∧ op.toNat ≤ 0x1F) ∨ 0x26 ≤ op.toNat) →
    step s = .refused (.illegalRequest (.unassignedOpcode op))) ∧
  (∀ (s : State) (op b : Byte) (rest : List Byte), s.frameIn = [] → s.hostIn = op :: b :: rest →
    (op = 0x0D ∨ op = 0x0E) → b ≠ 0x00 → b ≠ 0x01 → step s = .refused (.illegalRequest (.badBool b))) ∧
  (∀ (s : State) (i : Instr) (n : Nat), s.frameIn = [] → i.level = .request → i.wellFormed = true →
    0 < n → n < (encode i).length → s.hostIn = (encode i).take n → step s = .refused (.illegalRequest .tooShort))

/-- R67: a step runs the operation its pending bytes decode to, on the state with those bytes taken; a pending frame goes
before a pending request (log 8), and with nothing pending the block idles (log 7: the model's choice). A request ends where
its length ends, the rest staying pending (log 22: the model's choice). -/
def Obligations.StepRunsDecodedOperation : Prop :=
  (∀ (s : State) (i : Instr) (rest : List Byte), s.frameIn = [] → decodeRequest s.hostIn = .ok (i, rest) →
    step s = exec i { s with hostIn := rest }) ∧
  (∀ (s : State) (i : Instr) (rest : List Byte), s.frameIn ≠ [] → decodeFrame s.cfg s.frameIn = .ok (i, rest) →
    step s = exec i { s with frameIn := rest }) ∧
  (∀ s : State, s.frameIn = [] → s.hostIn = [] → step s = .next s)

/-! ## Construction -/

/-- R300, R301: the construction values, for every configuration, with no event emitted and no pin driven or configured.
`S.rotation = 0` and UNINIT are the spec's decision D23. The values of `madctl` and `buf`, which the spec leaves unspecified,
are not stated. -/
def Obligations.ConstructionValues : Prop :=
  (∀ (cfg : Config) (s : State), s = State.construct cfg →
    s.width = cfg.rawW ∧ s.height = cfg.rawH ∧ s.rotation = 0 ∧ s.inTx = false ∧ s.spiFrequency = cfg.spiFreq ∧
    s.cachedX0 = 0xFFFF ∧ s.cachedX1 = 0xFFFF ∧ s.cachedY0 = 0xFFFF ∧ s.cachedY1 = 0xFFFF ∧
    s.colStart = 0 ∧ s.rowStart = 0 ∧ s.backlightLevel = 255 ∧ s.initPhase = .uninit ∧ s.initPtr = 0 ∧
    s.faultIdleStream = false ∧ s.trace = [] ∧ s.cfg = cfg ∧
    ∀ p, pinLevel p s.trace = none ∧ pinConfigured p s.trace = false) ∧
  State.reset = State.construct Config.machine

/-! ## Transaction gate and command engine -/

/-- R130: startWrite, opcode 0x02. -/
def Obligations.StartWriteOpensOnce : Prop :=
  encode .startWrite = [0x02] ∧
  ∀ s : State, s.stallAt = none →
    exec .startWrite s = .next
      (if s.inTx = true then s
       else { s with
        inTx := true
        trace := s.trace ++ [.busOpen s.spiFrequency s.cfg.bitOrder s.cfg.spiMode, .pinSet s.cfg.pinCs .low] })

/-- R131: endWrite, opcode 0x03. -/
def Obligations.EndWriteClosesOnce : Prop :=
  encode .endWrite = [0x03] ∧
  ∀ s : State, s.stallAt = none →
    exec .endWrite s = .next
      (if s.inTx = true then { s with inTx := false, trace := s.trace ++ [.pinSet s.cfg.pinCs .high, .busClose] } else s)

/-- R133 to R137 (decisions D13, D14, D15): sendCommand emits its frame, in a transaction of its own where the gate was Idle,
and changes nothing but the trace, whatever the command byte. -/
def Obligations.SendCommandEmitsItsFrame : Prop :=
  ∀ (s : State) (cmd : Byte) (delayMs : U16) (data : List Byte), s.stallAt = none →
    exec (.sendCommand cmd delayMs data) s = .next { s with
      trace := s.trace ++
        (if s.inTx = true then []
         else [.busOpen s.spiFrequency s.cfg.bitOrder s.cfg.spiMode, .pinSet s.cfg.pinCs .low]) ++
        [.pinSet s.cfg.pinDc s.cfg.lvlCmd, .busWriteByte cmd, .pinSet s.cfg.pinDc s.cfg.lvlData] ++
        (if data = [] then [] else [.busWriteBytes data]) ++
        (if delayMs = 0 then [] else [.sleep (delayMs.setWidth 32)]) ++
        (if s.inTx = true then [] else [.pinSet s.cfg.pinCs .high, .busClose]) }

/-- R103, R138 (the range layout: decision D12; the close and data mode: D13, D14; the engine: D16; SWRESET's wait of 150 ms,
R153: D41): each level (b) instruction is its frame sent by the command engine, and nothing else (log 10: the model's
reading). -/
def Obligations.ComposedFramesAreSent : Prop :=
  ∀ s : State, s.stallAt = none →
    (∀ x0 x1, exec (.caset x0 x1) s =
      .next (s.log (commandEvents s s.cfg.cmdCaset [hi8 x0, lo8 x0, hi8 x1, lo8 x1] 0))) ∧
    (∀ y0 y1, exec (.raset y0 y1) s =
      .next (s.log (commandEvents s s.cfg.cmdRaset [hi8 y0, lo8 y0, hi8 y1, lo8 y1] 0))) ∧
    exec .ramwr s = .next (s.log (commandEvents s s.cfg.cmdRamwr [] 0)) ∧
    (∀ m, exec (.madctl m) s = .next (s.log (commandEvents s s.cfg.cmdMadctl [m] 0))) ∧
    exec .invon s = .next (s.log (commandEvents s s.cfg.cmdInvon [] 0)) ∧
    exec .invoff s = .next (s.log (commandEvents s s.cfg.cmdInvoff [] 0)) ∧
    exec .swreset s = .next (s.log (commandEvents s s.cfg.cmdSwreset [] 150))

/-- R132: `BusOpen` and `BusClose` alternate from a `BusOpen` on, each with its chip-select event beside it, and the gate is
where the trace left it: every step keeps this. -/
def Obligations.StepKeepsBracketLaw : Prop :=
  ∀ s t : State, s.bracketLaw → step s = .next t → t.bracketLaw

/-! ## Bring-up -/

/-- R150 (with R151 to R159; decisions D26, D27, D38, D41): begin's whole effect from an Idle gate. -/
def Obligations.BeginFromIdle : Prop :=
  ∀ (s : State) (speed : U32), s.stallAt = none → s.inTx = false →
    exec (.begin speed) s = .next (s.afterBegin speed) ∧
    (s.afterBegin speed).trace = s.trace ++ configureEvents s.cfg ++ resetEvents (s.withSpeed speed) ++
      openEvents (s.withSpeed speed) ++ replayEvents s.cfg ++
      frameEvents s.cfg s.cfg.cmdMadctl [madctlEntry s.cfg s.rotation] 0 ++ closeEvents s.cfg ++
      (match s.cfg.pinBl with | none => [] | some p => [.pinSet p .high])

/-- R163 (decisions D40 and, for the frames, D13 to D15): begin entered with the gate Open, its whole effect. The same
phases run, and the reset, the replay and the orientation frame open no transaction; the registers are as after a begin from
Idle and the gate ends Idle. With chip-select on a pin of its own, every byte goes out with CS HIGH. -/
def Obligations.BeginFromOpen : Prop :=
  ∀ (s : State) (speed : U32) (es : List Event), s.stallAt = none → s.inTx = true →
    es = configureEvents s.cfg ++
      (match s.cfg.pinRst with
       | some p => [.pinSet p .high, .sleep 10, .pinSet p .low, .sleep 20, .pinSet p .high, .sleep 120]
       | none => frameEvents s.cfg s.cfg.cmdSwreset [] 150) ++
      replayEvents s.cfg ++ frameEvents s.cfg s.cfg.cmdMadctl [madctlEntry s.cfg s.rotation] 0 ++
      [.pinSet s.cfg.pinCs .high, .busClose] ++ (match s.cfg.pinBl with | none => [] | some p => [.pinSet p .high]) →
    exec (.begin speed) s = .next { s with
      width := rotatedWidth s.cfg s.rotation, height := rotatedHeight s.cfg s.rotation
      inTx := false
      spiFrequency := if 0 < speed.toNat then speed else s.spiFrequency
      cachedX0 := 0xFFFF, cachedX1 := 0xFFFF, cachedY0 := 0xFFFF, cachedY1 := 0xFFFF
      colStart := 0, rowStart := 0
      madctl := madctlEntry s.cfg s.rotation
      backlightLevel := if s.cfg.pinBl = none then s.backlightLevel else 255
      initPhase := .ready
      initPtr := (s.cfg.initTable.entries.takeWhile (!·.isSentinel)).length
      trace := s.trace ++ es
      results := s.results ++ [.bool true] } ∧
    (∀ f o m, Event.busOpen f o m ∉ es) ∧
    (csAlone s.cfg →
      ∀ b ∈ wireScan s.cfg.pinDc s.cfg.pinCs (pinLevel s.cfg.pinDc s.trace) (pinLevel s.cfg.pinCs s.trace) es,
        b.cs = some .high)

/-- R159, R160: with a backlight pin begin ends by driving it HIGH and stores 255, without one it leaves the level; it returns
true and raises no fault. -/
def Obligations.BeginLightsAndReturnsTrue : Prop :=
  ∀ (s : State) (speed : U32), s.stallAt = none →
    ∃ t, exec (.begin speed) s = .next t ∧ t.results = s.results ++ [.bool true] ∧
      t.faultIdleStream = s.faultIdleStream ∧
      (∀ p, s.cfg.pinBl = some p → t.backlightLevel = 255 ∧ t.trace.getLast? = some (.pinSet p .high)) ∧
      (s.cfg.pinBl = none → t.backlightLevel = s.backlightLevel)

/-- R157 (decision D22), R33: begin leaves the pointer at the first sentinel of the table. -/
def Obligations.BeginStopsAtFirstSentinel : Prop :=
  ∀ (s : State) (speed : U32), s.stallAt = none →
    ∃ t e, exec (.begin speed) s = .next t ∧ s.cfg.initTable.entries[t.initPtr]? = some e ∧ e.isSentinel = true ∧
      ∀ k < t.initPtr, ∀ f, s.cfg.initTable.entries[k]? = some f → f.isSentinel = false

/-- R319, R320: the sleeps of begin add up to 150 ms of reset (10 + 20 + 120 with a reset pin, 150 without) and the delays of
the entries it sends. -/
def Obligations.BeginSleepsAddUp : Prop :=
  ∀ (s : State) (speed : U32), s.stallAt = none →
    ∃ t, exec (.begin speed) s = .next t ∧
      sleepTotal t.trace = sleepTotal s.trace + 150 +
        (((s.cfg.initTable.entries.takeWhile (!·.isSentinel)).map fun e => e.postDelayMs.toNat).sum)

/-- R302: the state after a begin entered with the gate Idle, the pins being distinct. -/
def Obligations.StateAfterBegin : Prop :=
  ∀ (s : State) (speed : U32), s.stallAt = none → s.inTx = false → csAlone s.cfg →
    (∀ p, s.cfg.pinRst = some p → p ≠ s.cfg.pinDc ∧ s.cfg.pinBl ≠ some p) → s.cfg.pinBl ≠ some s.cfg.pinDc →
    ∃ t, exec (.begin speed) s = .next t ∧ t.inTx = false ∧
      t.cachedX0 = 0xFFFF ∧ t.cachedX1 = 0xFFFF ∧ t.cachedY0 = 0xFFFF ∧ t.cachedY1 = 0xFFFF ∧
      t.madctl = madctlEntry s.cfg t.rotation ∧ t.rotation = s.rotation ∧ t.colStart = 0 ∧ t.rowStart = 0 ∧
      t.initPhase = .ready ∧ t.spiFrequency = (if 0 < speed then speed else s.spiFrequency) ∧
      t.backlightLevel = (if s.cfg.pinBl = none then s.backlightLevel else 255) ∧
      pinLevel s.cfg.pinCs t.trace = some .high ∧ pinLevel s.cfg.pinDc t.trace = some s.cfg.lvlData ∧
      (∀ p, s.cfg.pinRst = some p → pinLevel p t.trace = some .high) ∧
      (∀ p, s.cfg.pinBl = some p → pinLevel p t.trace = some .high)

/-! ## Address window -/

/-- R180 to R184 (decisions D11, D12, D16): the bounds on integers truncated to 16 bits, a range frame exactly where the
comparator misses, begin-memory-write always, the cache at the bounds after, and nothing else changed. -/
def Obligations.SetAddrWindowResult : Prop :=
  ∀ (s : State) (x y w h xa xb ya yb : U16), s.stallAt = none →
    xa = BitVec.ofInt 16 (x.toInt + s.colStart.toInt) → xb = BitVec.ofInt 16 (x.toInt + s.colStart.toInt + w.toInt - 1) →
    ya = BitVec.ofInt 16 (y.toInt + s.rowStart.toInt) → yb = BitVec.ofInt 16 (y.toInt + s.rowStart.toInt + h.toInt - 1) →
    exec (.setAddrWindow x y w h) s = .next { s with
      cachedX0 := xa, cachedX1 := xb, cachedY0 := ya, cachedY1 := yb
      trace := s.trace ++
        (if xa ≠ s.cachedX0 ∨ xb ≠ s.cachedX1 then
          commandEvents s s.cfg.cmdCaset [hi8 xa, lo8 xa, hi8 xb, lo8 xb] 0 else []) ++
        (if ya ≠ s.cachedY0 ∨ yb ≠ s.cachedY1 then
          commandEvents s s.cfg.cmdRaset [hi8 ya, lo8 ya, hi8 yb, lo8 yb] 0 else []) ++
        commandEvents s s.cfg.cmdRamwr [] 0 }

/-- R188: a second identical window call, and a third with another x, in any state: the second emits only begin-memory-write,
the third no row range. -/
def Obligations.WindowCaching : Prop :=
  ∀ (s : State) (x x' y w h : U16), s.stallAt = none →
    BitVec.ofInt 16 (x'.toInt + s.colStart.toInt) ≠ BitVec.ofInt 16 (x.toInt + s.colStart.toInt) →
    ∃ t u v, exec (.setAddrWindow x y w h) s = .next t ∧ exec (.setAddrWindow x y w h) t = .next u ∧
      exec (.setAddrWindow x' y w h) u = .next v ∧
      u = t.log (commandEvents s s.cfg.cmdRamwr [] 0) ∧
      v.trace = u.trace ++ commandEvents s s.cfg.cmdCaset (rangeBytes v.cachedX0 v.cachedX1) 0 ++
        commandEvents s s.cfg.cmdRamwr [] 0 ∧
      v.cachedX0 = BitVec.ofInt 16 (x'.toInt + s.colStart.toInt)

/-- R187: after any setRotation the cache holds the sentinel, and the next setAddrWindow emits each range frame unless that
pair computes to the sentinel pair (R185). -/
def Obligations.RotationInvalidatesWindow : Prop :=
  ∀ (s : State) (r : Byte) (x y w h : U16), s.stallAt = none →
    ∃ t u, exec (.setRotation r) s = .next t ∧ exec (.setAddrWindow x y w h) t = .next u ∧
      t.cachedX0 = 0xFFFF ∧ t.cachedX1 = 0xFFFF ∧ t.cachedY0 = 0xFFFF ∧ t.cachedY1 = 0xFFFF ∧
      u.trace = t.trace ++
        (if u.cachedX0 = 0xFFFF ∧ u.cachedX1 = 0xFFFF then []
         else commandEvents s s.cfg.cmdCaset (rangeBytes u.cachedX0 u.cachedX1) 0) ++
        (if u.cachedY0 = 0xFFFF ∧ u.cachedY1 = 0xFFFF then []
         else commandEvents s s.cfg.cmdRaset (rangeBytes u.cachedY0 u.cachedY1) 0) ++
        commandEvents s s.cfg.cmdRamwr [] 0 ∧
      u.cachedX0 = x ∧ u.cachedY0 = y

/-- R102, R103: inside an Open gate, with the two D/C levels distinct, the events of setAddrWindow read as the composed frames.
Of a configuration with equal levels (log 24, the model's choice) nothing is stated. -/
def Obligations.WindowReadsAsFrames : Prop :=
  ∀ (s : State) (x y w h : U16), s.stallAt = none → s.inTx = true → s.cfg.lvlCmd ≠ s.cfg.lvlData →
    ∃ t es, exec (.setAddrWindow x y w h) s = .next t ∧ t.trace = s.trace ++ es ∧
      framesOf s.cfg es =
        (if t.cachedX0 ≠ s.cachedX0 ∨ t.cachedX1 ≠ s.cachedX1 then
          [(s.cfg.cmdCaset, rangeBytes t.cachedX0 t.cachedX1)] else []) ++
        (if t.cachedY0 ≠ s.cachedY0 ∨ t.cachedY1 ≠ s.cachedY1 then
          [(s.cfg.cmdRaset, rangeBytes t.cachedY0 t.cachedY1)] else []) ++
        [(s.cfg.cmdRamwr, [])]

/-! ## Pixel streams -/

/-- R200: inside an Open gate, writeColorRepeated asserts data mode once, fills BUF, and streams full chunks of 64 pixels and
then the remainder; a count of 0 does nothing. That BUF holds the colour after the stream, its slots from `count` on as before,
is log 6 (DESIGN CHOICE, unsafe: R35 leaves the contents between streams unspecified). -/
def Obligations.FillEngineStreams : Prop :=
  ∀ (s : State) (color : U16) (count : U32), s.stallAt = none → s.inTx = true →
    exec (.writeColorRepeated color count) s = .next
      (if count.toNat = 0 then s
       else { s with
        trace := s.trace ++ [.pinSet s.cfg.pinDc s.cfg.lvlData] ++
          List.replicate (count.toNat / 64) (.busWriteBytes (List.replicate 64 [hi8 color, lo8 color]).flatten) ++
          (if count.toNat % 64 = 0 then []
           else [.busWriteBytes (List.replicate (count.toNat % 64) [hi8 color, lo8 color]).flatten])
        buf := Vector.ofFn fun j => if j.val < count.toNat then color else s.buf[j.val] })

/-- R200: the number of chunks is `ceil(count/64)`, none longer than 128 bytes, and the pixel bytes are `2·count`. -/
def Obligations.FillChunkCounts : Prop :=
  ∀ (s : State) (color : U16) (count : U32), s.stallAt = none →
    ∃ t es, exec (.writeColorRepeated color count) s = .next t ∧ t.trace = s.trace ++ es ∧
      (es.filterMap fun e => match e with | .busWriteBytes bs => some bs.length | _ => none).length =
        (count.toNat + 63) / 64 ∧
      (∀ n ∈ es.filterMap fun e => match e with | .busWriteBytes bs => some bs.length | _ => none, n ≤ 128) ∧
      (es.filterMap fun e => match e with | .busWriteBytes bs => some bs.length | _ => none).sum = 2 * count.toNat

/-- R205 (its frames by D11, D12, D16): a pixel outside the canvas does nothing, in any gate; one inside, with the gate Open,
sets a 1 by 1 window, asserts data mode and sends the two bytes, high byte first. -/
def Obligations.WritePixelResult : Prop :=
  ∀ (s : State) (x y color : U16), s.stallAt = none →
    ((x.toInt < 0 ∨ y.toInt < 0 ∨ (s.width.toNat : Int) ≤ x.toInt ∨ (s.height.toNat : Int) ≤ y.toInt) →
      exec (.writePixel x y color) s = .next s) ∧
    (s.inTx = true → 0 ≤ x.toInt → x.toInt < s.width.toNat → 0 ≤ y.toInt → y.toInt < s.height.toNat →
      exec (.writePixel x y color) s = .next ((s.afterWindow x.toInt y.toInt 1 1).log
        [.pinSet s.cfg.pinDc s.cfg.lvlData, .busWriteBytes [hi8 color, lo8 color]]))

/-- R207, R208 (decision D18): with the gate Open, writePixels streams the colours in order in chunks of at most 64, through
BUF, and touches no other register; an empty sequence does nothing. What BUF holds after the stream, and that its other slots
stay, is log 6 (DESIGN CHOICE, unsafe: R35 leaves the contents between streams unspecified). -/
def Obligations.WritePixelsResult : Prop :=
  ∀ (s : State) (colors : List U16), s.stallAt = none → s.inTx = true →
    exec (.writePixels colors) s = .next
      (if colors = [] then s
       else { s with
        trace := s.trace ++ [.pinSet s.cfg.pinDc s.cfg.lvlData] ++
          (List.range ((colors.length + 63) / 64)).map fun k =>
            .busWriteBytes (((colors.drop (64 * k)).take 64).flatMap fun c => [hi8 c, lo8 c])
        buf := Vector.ofFn fun j =>
          colors.getD (j.val + 64 * ((colors.length - 1 - j.val) / 64)) s.buf[j.val] })

/-- R208: the bytes of the chunks, in order, are the colours' bytes in order. -/
def Obligations.WritePixelsKeepsOrder : Prop :=
  ∀ (s : State) (colors : List U16), s.stallAt = none →
    ∃ t es, exec (.writePixels colors) s = .next t ∧ t.trace = s.trace ++ es ∧
      (es.filterMap fun e => match e with | .busWriteBytes bs => some bs | _ => none).flatten =
        colors.flatMap fun c => [hi8 c, lo8 c]

/-- R282 (decision D17): with the gate Idle each stream engine raises IDLE_STREAM before its data mode, and still streams.
What BUF holds after the stream is log 6 (DESIGN CHOICE, unsafe: R35 leaves it unspecified). -/
def Obligations.IdleStreamsFaultAndRun : Prop :=
  ∀ s : State, s.stallAt = none → s.inTx = false →
    (∀ (color : U16) (count : U32), exec (.writeColorRepeated color count) s = .next
      (if count.toNat = 0 then s
       else { s with
        faultIdleStream := true
        trace := s.trace ++ [.fault .idleStream, .pinSet s.cfg.pinDc s.cfg.lvlData] ++ solidChunks color count.toNat
        buf := paintBuf s.buf count.toNat color })) ∧
    (∀ x y color : U16, 0 ≤ x.toInt → x.toInt < s.width.toNat → 0 ≤ y.toInt → y.toInt < s.height.toNat →
      exec (.writePixel x y color) s = .next { (s.afterWindow x.toInt y.toInt 1 1).log
        [.fault .idleStream, .pinSet s.cfg.pinDc s.cfg.lvlData, .busWriteBytes [hi8 color, lo8 color]] with
        faultIdleStream := true }) ∧
    (∀ colors : List U16, exec (.writePixels colors) s = .next
      (if colors = [] then s
       else { s with
        faultIdleStream := true
        trace := s.trace ++ [.fault .idleStream, .pinSet s.cfg.pinDc s.cfg.lvlData] ++ hostChunkEvents colors
        buf := streamBuf s.buf colors }))

/-- R210 to R212 (decision D19): the line and rectangle primitives do nothing on a non-positive size, and otherwise set the
window once and stream the whole span, without clipping. What BUF holds after the stream is log 6 (DESIGN CHOICE, unsafe: R35
leaves it unspecified). -/
def Obligations.LinesAndRectanglesStreamOnce : Prop :=
  ∀ (s : State) (x y color : U16), s.stallAt = none →
    (∀ w : U16, exec (.writeFastHLine x y w color) s = .next
      (if w.toInt ≤ 0 then s else (s.afterWindow x.toInt y.toInt w.toInt 1).afterFill color w.toInt.toNat)) ∧
    (∀ h : U16, exec (.writeFastVLine x y h color) s = .next
      (if h.toInt ≤ 0 then s else (s.afterWindow x.toInt y.toInt 1 h.toInt).afterFill color h.toInt.toNat)) ∧
    (∀ w h : U16, exec (.writeFillRect x y w h color) s = .next
      (if w.toInt ≤ 0 ∨ h.toInt ≤ 0 then s
       else (s.afterWindow x.toInt y.toInt w.toInt h.toInt).afterFill color (w.toInt * h.toInt).toNat))

/-- R310 (decision D21): startWrite, then an operation that brackets itself, closes the host's bracket: a stream after it
meets the gate Idle. -/
def Obligations.PrematureClose : Prop :=
  ∀ (s : State) (x y color c : U16) (cs : List U16), s.stallAt = none →
    0 ≤ x.toInt → x.toInt < s.width.toNat → 0 ≤ y.toInt → y.toInt < s.height.toNat →
    ∃ t u v, exec .startWrite s = .next t ∧ exec (.drawPixel x y color) t = .next u ∧
      exec (.writePixels (c :: cs)) u = .next v ∧ t.inTx = true ∧ u.inTx = false ∧ v.faultIdleStream = true

/-! ## Control -/

/-- R230, R24: setRotation writes the geometry, the orientation byte, the offsets and the cache, and then sends the
orientation frame, on every call. -/
def Obligations.SetRotationResult : Prop :=
  ∀ (s : State) (r : Byte) (q : BitVec 2), s.stallAt = none → q.toNat = r.toNat % 4 →
    exec (.setRotation r) s = .next { s with
      rotation := q
      width := if q = 1 ∨ q = 3 then s.cfg.rawH else s.cfg.rawW
      height := if q = 1 ∨ q = 3 then s.cfg.rawW else s.cfg.rawH
      madctl := s.cfg.madctlTable[q.toNat]'q.isLt
      colStart := 0, rowStart := 0
      cachedX0 := 0xFFFF, cachedX1 := 0xFFFF, cachedY0 := 0xFFFF, cachedY1 := 0xFFFF
      trace := s.trace ++ commandEvents s s.cfg.cmdMadctl [s.cfg.madctlTable[q.toNat]'q.isLt] 0 }

/-- R231: arguments equal modulo 4 give the same state, trace included. -/
def Obligations.RotationIsModuloFour : Prop :=
  ∀ (s : State) (r r' : Byte), r.toNat % 4 = r'.toNat % 4 → exec (.setRotation r) s = exec (.setRotation r') s

/-- R233: invertDisplay sends the invert-on or the invert-off frame and keeps no state of it. -/
def Obligations.InvertDisplayResult : Prop :=
  ∀ (s : State) (invert : Bool), s.stallAt = none →
    exec (.invertDisplay invert) s =
      .next (s.log (commandEvents s (if invert = true then s.cfg.cmdInvon else s.cfg.cmdInvoff) [] 0))

/-- R236 (decision D20 for the stored level). -/
def Obligations.SetBacklightResult : Prop :=
  ∀ (s : State) (on : Bool), s.stallAt = none →
    (s.cfg.pinBl = none → exec (.setBacklight on) s = .next s) ∧
    (∀ p, s.cfg.pinBl = some p → exec (.setBacklight on) s = .next { s with
      backlightLevel := if on = true then 255 else 0
      trace := s.trace ++ [.pinSet p (if on = true then .high else .low)] })

/-- R237, opcode 0x0F: the pin is HIGH for every level but 0, the level stored verbatim; without a pin nothing. -/
def Obligations.SetBacklightLevelResult : Prop :=
  (∀ level : Byte, encode (.setBacklightLevel level) = [0x0F, level]) ∧
  ∀ (s : State) (level : Byte), s.stallAt = none →
    (s.cfg.pinBl = none → exec (.setBacklightLevel level) s = .next s) ∧
    (∀ p, s.cfg.pinBl = some p → exec (.setBacklightLevel level) s = .next { s with
      backlightLevel := level
      trace := s.trace ++ [.pinSet p (if level = 0 then .low else .high)] })

/-- R238 to R240, opcodes 0x10 to 0x12: the accessors return their register and change nothing else, in every
environment. -/
def Obligations.AccessorsReturnRegisters : Prop :=
  encode .getWidth = [0x10] ∧ encode .getHeight = [0x11] ∧ encode .getRotation = [0x12] ∧
  ∀ s : State,
    exec .getWidth s = .next { s with results := s.results ++ [.u16 s.width] } ∧
    exec .getHeight s = .next { s with results := s.results ++ [.u16 s.height] } ∧
    exec .getRotation s = .next { s with results := s.results ++ [.u8 (BitVec.ofNat 8 s.rotation.toNat)] }

/-! ## Front end -/

/-- R250 (decision D28): clipRect returns true with the intersection, or false with a rectangle the spec leaves unspecified
(a free value, log 13: nothing is stated of it); it emits nothing and writes no register of the spec's. -/
def Obligations.ClipRectResult : Prop :=
  ∀ (s : State) (x y w h : U16),
    (0 < w.toInt → 0 < h.toInt →
      max x.toInt 0 < min (x.toInt + w.toInt) s.width.toNat → max y.toInt 0 < min (y.toInt + h.toInt) s.height.toNat →
      exec (.clipRect x y w h) s = .next { s with results := s.results ++ [.clip true
        ⟨BitVec.ofInt 16 (max x.toInt 0), BitVec.ofInt 16 (max y.toInt 0),
         BitVec.ofInt 16 (min (x.toInt + w.toInt) s.width.toNat - max x.toInt 0),
         BitVec.ofInt 16 (min (y.toInt + h.toInt) s.height.toNat - max y.toInt 0)⟩] }) ∧
    ((w.toInt ≤ 0 ∨ h.toInt ≤ 0 ∨ min (x.toInt + w.toInt) s.width.toNat ≤ max x.toInt 0 ∨
      min (y.toInt + h.toInt) s.height.toNat ≤ max y.toInt 0) →
      ∃ r, exec (.clipRect x y w h) s =
        .next { s with results := s.results ++ [.clip false r], freeCount := s.freeCount + 1 })

/-- R251, the clipping law: false iff the intersection is empty; else the returned rectangle, read as i16, has exactly the
intersection's points. -/
def Obligations.ClippingLaw : Prop :=
  ∀ (s : State) (x y w h : U16),
    ∃ t ok r, exec (.clipRect x y w h) s = .next t ∧ t.results = s.results ++ [.clip ok r] ∧
      (ok = false ↔ ¬ ∃ px py : Int, x.toInt ≤ px ∧ px < x.toInt + w.toInt ∧ y.toInt ≤ py ∧ py < y.toInt + h.toInt ∧
        0 ≤ px ∧ px < s.width.toNat ∧ 0 ≤ py ∧ py < s.height.toNat) ∧
      (ok = true → ∀ px py : Int,
        (r.x.toInt ≤ px ∧ px < r.x.toInt + r.w.toInt ∧ r.y.toInt ≤ py ∧ py < r.y.toInt + r.h.toInt) ↔
        (x.toInt ≤ px ∧ px < x.toInt + w.toInt ∧ y.toInt ≤ py ∧ py < y.toInt + h.toInt ∧
          0 ≤ px ∧ px < s.width.toNat ∧ 0 ≤ py ∧ py < s.height.toNat))

/-- R252: drawPixel. -/
def Obligations.DrawPixelResult : Prop :=
  ∀ (s : State) (x y color : U16), s.stallAt = none →
    ((x.toInt < 0 ∨ y.toInt < 0 ∨ (s.width.toNat : Int) ≤ x.toInt ∨ (s.height.toNat : Int) ≤ y.toInt) →
      exec (.drawPixel x y color) s = .next s) ∧
    (0 ≤ x.toInt → x.toInt < s.width.toNat → 0 ≤ y.toInt → y.toInt < s.height.toNat →
      exec (.drawPixel x y color) s = .next
        ((s.afterOpen.afterWindow x.toInt y.toInt 1 1).log
          [.pinSet s.cfg.pinDc s.cfg.lvlData, .busWriteBytes [hi8 color, lo8 color]]).afterClose)

/-- R253 to R255 (the clip on exact integers: decision D28; the window's bounds and frames: D11, D12, D16):
drawFastHLine, drawFastVLine and fillRect clip; an empty intersection does nothing at all; otherwise one
bracket around the window of the clipped rectangle and its fill. What BUF holds after the fill is log 6 (DESIGN CHOICE, unsafe:
R35 leaves it unspecified). -/
def Obligations.DrawClippedRectangles : Prop :=
  ∀ (s : State) (x y color : U16), s.stallAt = none →
    (∀ w : U16, exec (.drawFastHLine x y w color) s = .next (s.afterFillRect x.toInt y.toInt w.toInt 1 color)) ∧
    (∀ h : U16, exec (.drawFastVLine x y h color) s = .next (s.afterFillRect x.toInt y.toInt 1 h.toInt color)) ∧
    (∀ w h : U16, exec (.fillRect x y w h color) s = .next (s.afterFillRect x.toInt y.toInt w.toInt h.toInt color)) ∧
    (∀ x y w h : Int, (w ≤ 0 ∨ h ≤ 0 ∨ min (x + w) s.width.toNat ≤ max x 0 ∨ min (y + h) s.height.toNat ≤ max y 0) →
      s.afterFillRect x y w h color = s) ∧
    (∀ x y w h x1 y1 : Int, 0 < w → 0 < h → x1 = min (x + w) s.width.toNat → y1 = min (y + h) s.height.toNat →
      max x 0 < x1 → max y 0 < y1 →
      s.afterFillRect x y w h color =
        ((s.afterOpen.afterWindow (max x 0) (max y 0) (x1 - max x 0) (y1 - max y 0)).afterFill color
          ((x1 - max x 0) * (y1 - max y 0)).toNat).afterClose)

/-- R256 (the clip: decision D28; the window's bounds and frames: D11, D12, D16): fillScreen is fillRect of the whole canvas;
on a canvas that is not empty it fills width times height pixels in one bracket. On a canvas wider or higher than 32767 this
rests on log 14 (DEDUCED, unsafe: the dimensions are passed as integers, beyond an i16). What BUF holds after the fill is log 6
(DESIGN CHOICE, unsafe: R35 leaves it unspecified). -/
def Obligations.FillScreenFillsCanvas : Prop :=
  ∀ (s : State) (color : U16), s.stallAt = none → 0 < s.width.toNat → 0 < s.height.toNat →
    exec (.fillScreen color) s = .next
      ((s.afterOpen.afterWindow 0 0 s.width.toNat s.height.toNat).afterFill color
        (s.width.toNat * s.height.toNat)).afterClose

/-- The §8 scenario (spec/95_test_vectors.md P4): on a 240 by 240 canvas with the gate Idle, the cache invalidated and no
offset, fillScreen opens one transaction, sets the window (0,0)-(239,239) and streams 900 full chunks. -/
def Obligations.FillScreenScenario : Prop :=
  ∀ (s : State) (color : U16), s.stallAt = none → s.inTx = false → s.width = 240 → s.height = 240 →
    s.colStart = 0 → s.rowStart = 0 →
    s.cachedX0 = 0xFFFF → s.cachedX1 = 0xFFFF → s.cachedY0 = 0xFFFF → s.cachedY1 = 0xFFFF →
    ∃ t, exec (.fillScreen color) s = .next t ∧
      t.trace = s.trace ++ [.busOpen s.spiFrequency s.cfg.bitOrder s.cfg.spiMode, .pinSet s.cfg.pinCs .low] ++
        frameEvents s.cfg s.cfg.cmdCaset [0x00, 0x00, 0x00, 0xEF] 0 ++
        frameEvents s.cfg s.cfg.cmdRaset [0x00, 0x00, 0x00, 0xEF] 0 ++
        frameEvents s.cfg s.cfg.cmdRamwr [] 0 ++ [.pinSet s.cfg.pinDc s.cfg.lvlData] ++
        List.replicate 900 (.busWriteBytes (List.replicate 64 [hi8 color, lo8 color]).flatten) ++
        [.pinSet s.cfg.pinCs .high, .busClose] ∧
      t.cachedX0 = 0 ∧ t.cachedX1 = 239 ∧ t.cachedY0 = 0 ∧ t.cachedY1 = 239

/-- R257: from an Idle gate a front-end operation either emits nothing or exactly one `BusOpen` and one `BusClose`, the gate
Idle after it; and it raises no fault (R252 to R256). -/
def Obligations.FrontEndOneTransaction : Prop :=
  ∀ (s : State) (i : Instr), s.stallAt = none → s.inTx = false →
    ((∃ x y c, i = .drawPixel x y c) ∨ (∃ x y w c, i = .drawFastHLine x y w c) ∨ (∃ x y h c, i = .drawFastVLine x y h c) ∨
      (∃ x y w h c, i = .fillRect x y w h c) ∨ (∃ c, i = .fillScreen c)) →
    ∃ t es, exec i s = .next t ∧ t.trace = s.trace ++ es ∧ t.inTx = false ∧ t.faultIdleStream = s.faultIdleStream ∧
      (es = [] ∨
        ((es.filter fun e => match e with | .busOpen _ _ _ => true | _ => false).length = 1 ∧
         (es.filter fun e => e == .busClose).length = 1))

/-! ## Frames: what an instruction leaves -/

/-- R21, R32: whatever the instruction, only setRotation and begin write the rotation, geometry, orientation and offset
registers; only begin writes the frequency, the phase and the pointer; only begin and the backlight operations write the
level. That a frame taken alone writes no register is log 10, the model's reading. The other clauses are about the model's
own fields and formalise no rule of the spec: the configuration (a field by log 1), the pending input (log 7, log 8) and the
environment's index (log 11) stay; only begin, clipRect and the accessors return a value (kept by log 12); only clipRect
takes a free value (log 13). -/
def Obligations.ControlRegisterFrame : Prop :=
  ∀ (i : Instr) (s t : State), exec i s = .next t →
    t.cfg = s.cfg ∧ t.hostIn = s.hostIn ∧ t.frameIn = s.frameIn ∧ t.stallAt = s.stallAt ∧
    ((∀ r, i ≠ .setRotation r) → (∀ v, i ≠ .begin v) →
      t.rotation = s.rotation ∧ t.width = s.width ∧ t.height = s.height ∧ t.madctl = s.madctl ∧
      t.colStart = s.colStart ∧ t.rowStart = s.rowStart) ∧
    ((∀ v, i ≠ .begin v) →
      t.spiFrequency = s.spiFrequency ∧ t.initPhase = s.initPhase ∧ t.initPtr = s.initPtr ∧
      ((∀ b, i ≠ .setBacklight b) → (∀ l, i ≠ .setBacklightLevel l) → t.backlightLevel = s.backlightLevel)) ∧
    ((∀ v, i ≠ .begin v) → (∀ x y w h, i ≠ .clipRect x y w h) → i ≠ .getWidth → i ≠ .getHeight → i ≠ .getRotation →
      t.results = s.results) ∧
    ((∀ x y w h, i ≠ .clipRect x y w h) → t.freeCount = s.freeCount)

/-- R27, R137, R312: the window cache is written by setAddrWindow, by the operations that set a window through it, by
setRotation and by begin, and by nothing else; in particular by no sendCommand, whatever the command byte, and by no
frame taken alone (log 10, the model's reading). -/
def Obligations.WindowCacheFrame : Prop :=
  ∀ (i : Instr) (s t : State),
    (i = .startWrite ∨ i = .endWrite ∨ (∃ c d p, i = .sendCommand c d p) ∨ (∃ c n, i = .writeColorRepeated c n) ∨
      (∃ cs, i = .writePixels cs) ∨ (∃ b, i = .invertDisplay b) ∨ (∃ b, i = .setBacklight b) ∨
      (∃ l, i = .setBacklightLevel l) ∨ i = .getWidth ∨ i = .getHeight ∨ i = .getRotation ∨
      (∃ x y w h, i = .clipRect x y w h) ∨ i.level = .frame) →
    exec i s = .next t →
    t.cachedX0 = s.cachedX0 ∧ t.cachedX1 = s.cachedX1 ∧ t.cachedY0 = s.cachedY0 ∧ t.cachedY1 = s.cachedY1

/-- R65, R200, R207: the slots of BUF. Only a stream through BUF writes them: a fill of `n` pixels no slot from `n` on,
writePixels no slot from the sequence's length on, every other instruction none at all. That a slot keeps its value is log 6
(DESIGN CHOICE, unsafe: R35 leaves the contents between streams unspecified). -/
def Obligations.ChunkBufferFrame : Prop :=
  ∀ (i : Instr) (s t : State), exec i s = .next t →
    (∀ c n, i = .writeColorRepeated c n → ∀ (j : Nat) (h : j < 64), n.toNat ≤ j → t.buf[j] = s.buf[j]) ∧
    (∀ x y w c, i = .writeFastHLine x y w c → ∀ (j : Nat) (h : j < 64), w.toInt ≤ j → t.buf[j] = s.buf[j]) ∧
    (∀ x y k c, i = .writeFastVLine x y k c → ∀ (j : Nat) (h : j < 64), k.toInt ≤ j → t.buf[j] = s.buf[j]) ∧
    (∀ x y w k c, i = .writeFillRect x y w k c → ∀ (j : Nat) (h : j < 64),
      (w.toInt ≤ 0 ∨ k.toInt ≤ 0 ∨ w.toInt * k.toInt ≤ j) → t.buf[j] = s.buf[j]) ∧
    (∀ cs, i = .writePixels cs → ∀ (j : Nat) (h : j < 64), cs.length ≤ j → t.buf[j] = s.buf[j]) ∧
    ((∀ c n, i ≠ .writeColorRepeated c n) → (∀ x y w c, i ≠ .writeFastHLine x y w c) →
      (∀ x y k c, i ≠ .writeFastVLine x y k c) → (∀ x y w k c, i ≠ .writeFillRect x y w k c) →
      (∀ cs, i ≠ .writePixels cs) → (∀ x y w c, i ≠ .drawFastHLine x y w c) → (∀ x y k c, i ≠ .drawFastVLine x y k c) →
      (∀ x y w k c, i ≠ .fillRect x y w k c) → (∀ c, i ≠ .fillScreen c) → t.buf = s.buf)

/-- The gate. R129 to R131: startWrite leaves it Open and endWrite Idle. R150, R163: begin leaves it Idle, entered Open too
(decision D40). R252 to R256: a front-end operation leaves it Idle, or returns early with nothing changed. R134: every other
instruction leaves it as it was (a frame taken alone: log 10). -/
def Obligations.GateFrame : Prop :=
  ∀ (i : Instr) (s t : State), exec i s = .next t →
    (i = .startWrite → t.inTx = true) ∧ (i = .endWrite → t.inTx = false) ∧ ((∃ v, i = .begin v) → t.inTx = false) ∧
    ((∃ x y c, i = .drawPixel x y c) ∨ (∃ x y w c, i = .drawFastHLine x y w c) ∨ (∃ x y h c, i = .drawFastVLine x y h c) ∨
      (∃ x y w h c, i = .fillRect x y w h c) ∨ (∃ c, i = .fillScreen c) → t.inTx = false ∨ t = s) ∧
    (i ≠ .startWrite → i ≠ .endWrite → (∀ v, i ≠ .begin v) → (∀ x y c, i ≠ .drawPixel x y c) →
      (∀ x y w c, i ≠ .drawFastHLine x y w c) → (∀ x y h c, i ≠ .drawFastVLine x y h c) →
      (∀ x y w h c, i ≠ .fillRect x y w h c) → (∀ c, i ≠ .fillScreen c) → t.inTx = s.inTx)

/-! ## Whole-machine rules -/

/-- R23: construction has the canvas geometry and every step keeps it; only setRotation changes the rotation. -/
def Obligations.StepKeepsGeometry : Prop :=
  (∀ cfg : Config, (State.construct cfg).geometry) ∧
  (∀ s t : State, s.geometry → step s = .next t → t.geometry) ∧
  (∀ (i : Instr) (s t : State), exec i s = .next t → (∀ r, i ≠ .setRotation r) → t.rotation = s.rotation)

/-- R24: after every operation the rotation is the two low bits of the last argument given to setRotation. -/
def Obligations.RotationHoldsLastArgument : Prop :=
  ∀ (i : Instr) (s t : State), exec i s = .next t →
    t.rotation.toNat < 4 ∧
    (∀ r, i = .setRotation r → t.rotation.toNat = r.toNat % 4) ∧ ((∀ r, i ≠ .setRotation r) → t.rotation = s.rotation)

/-- R26: the frequency is SPI_FREQ at construction, only a begin with a positive speed replaces it, and startWrite passes it
to `BusOpen`. -/
def Obligations.FrequencyRule : Prop :=
  (∀ cfg : Config, (State.construct cfg).spiFrequency = cfg.spiFreq) ∧
  (∀ (i : Instr) (s t : State), exec i s = .next t →
    (∀ v, i = .begin v → t.spiFrequency = if 0 < v.toNat then v else s.spiFrequency) ∧
    ((∀ v, i ≠ .begin v) → t.spiFrequency = s.spiFrequency)) ∧
  (∀ s t : State, s.inTx = false → exec .startWrite s = .next t →
    t.trace[s.trace.length]? = some (.busOpen s.spiFrequency s.cfg.bitOrder s.cfg.spiMode))

/-- R29: no step makes a window offset other than 0. -/
def Obligations.StepKeepsZeroOffsets : Prop :=
  ∀ s t : State, s.noOffset → step s = .next t → t.noOffset

/-- R37: a step only appends to the trace and to the returned values. -/
def Obligations.StepOnlyAppends : Prop :=
  ∀ s t : State, step s = .next t → (∃ es, t.trace = s.trace ++ es) ∧ (∃ rs, t.results = s.results ++ rs)

/-- R60: every event a step emits has a form R60 allows: no empty byte list, no sleep of 0 ms. -/
def Obligations.StepKeepsEventForms : Prop :=
  ∀ s t : State, s.eventsWf → step s = .next t → t.eventsWf

/-- R13, R36: the sticky bit and the fault's events in the trace go together, and no step clears the bit. -/
def Obligations.StepKeepsFaultRecord : Prop :=
  ∀ s t : State, s.faultRecorded → step s = .next t →
    t.faultRecorded ∧ (s.faultIdleStream = true → t.faultIdleStream = true)

/-- R316: with D/C on a pin of its own, the line is never left at another level than `LVL_DATA` by a step: not in command mode,
where the two levels differ (equal levels: log 24, the model's choice). -/
def Obligations.StepLeavesDataMode : Prop :=
  ∀ s t : State, s.cfg.pinDc ≠ s.cfg.pinCs → s.cfg.pinRst ≠ some s.cfg.pinDc → s.cfg.pinBl ≠ some s.cfg.pinDc →
    (pinLevel s.cfg.pinDc s.trace = none ∨ pinLevel s.cfg.pinDc s.trace = some s.cfg.lvlData) → step s = .next t →
    (pinLevel s.cfg.pinDc t.trace = none ∨ pinLevel s.cfg.pinDc t.trace = some s.cfg.lvlData)

/-- R62, R129 to R134, R282, R303 (3): with chip-select on a pin of its own and begin called only with the gate Idle,
chip-select follows the gate, every command runs in an Open gate, and as long as no fault is recorded every byte on the wire
was sent with CS LOW: an instruction keeps this. -/
def Obligations.NoFaultMeansDelivered : Prop :=
  ∀ (i : Instr) (s t : State), csAlone s.cfg → beginDuty i s → s.csFollowsGate →
    (s.faultIdleStream = false → s.allDelivered) → exec i s = .next t →
    t.csFollowsGate ∧ (t.faultIdleStream = false → t.allDelivered)

/-- The invariants above hold at construction, for every configuration, and so at reset. -/
def Obligations.InvariantsAtReset : Prop :=
  ∀ cfg : Config,
    (State.construct cfg).geometry ∧ (State.construct cfg).noOffset ∧ (State.construct cfg).bracketLaw ∧
    (State.construct cfg).eventsWf ∧ (State.construct cfg).faultRecorded ∧ (State.construct cfg).csFollowsGate ∧
    (State.construct cfg).allDelivered

/-- R61, R287: an instruction hangs exactly where one of the events it emits is the one the environment never completes, the
`Fault` record not being such an event; otherwise it answers what it would with a completing environment. That the environment
sets `stallAt`, and the fault's name, are log 11, the model's choice; the statement is about every value of the field. -/
def Obligations.StalledEventHangs : Prop :=
  ∀ (i : Instr) (s t : State) (k : Nat), s.stallAt = some k → exec i { s with stallAt := none } = .next t →
    ((s.trace.length ≤ k ∧ ∃ e, t.trace[k]? = some e ∧ ∀ n, e ≠ .fault n) → exec i s = .fault .busStalled) ∧
    (¬ (s.trace.length ≤ k ∧ ∃ e, t.trace[k]? = some e ∧ ∀ n, e ≠ .fault n) →
      exec i s = .next { t with stallAt := some k })
end

