-- ==== Sys2Proof/Laws/State.lean ====
section
/-! SUPPORT. One lemma per field per update of the state, each true by definition, so that no proof unfolds a record update. -/

namespace Sys2Proof.Machine

/-! `emit` -/

@[simp] theorem emit_cfg (e : Event) (s : State) : (emit e s).cfg = s.cfg := rfl
@[simp] theorem emit_width (e : Event) (s : State) : (emit e s).width = s.width := rfl
@[simp] theorem emit_height (e : Event) (s : State) : (emit e s).height = s.height := rfl
@[simp] theorem emit_rotation (e : Event) (s : State) : (emit e s).rotation = s.rotation := rfl
@[simp] theorem emit_inTx (e : Event) (s : State) : (emit e s).inTx = s.inTx := rfl
@[simp] theorem emit_spiFrequency (e : Event) (s : State) : (emit e s).spiFrequency = s.spiFrequency := rfl
@[simp] theorem emit_cachedX0 (e : Event) (s : State) : (emit e s).cachedX0 = s.cachedX0 := rfl
@[simp] theorem emit_cachedX1 (e : Event) (s : State) : (emit e s).cachedX1 = s.cachedX1 := rfl
@[simp] theorem emit_cachedY0 (e : Event) (s : State) : (emit e s).cachedY0 = s.cachedY0 := rfl
@[simp] theorem emit_cachedY1 (e : Event) (s : State) : (emit e s).cachedY1 = s.cachedY1 := rfl
@[simp] theorem emit_colStart (e : Event) (s : State) : (emit e s).colStart = s.colStart := rfl
@[simp] theorem emit_rowStart (e : Event) (s : State) : (emit e s).rowStart = s.rowStart := rfl
@[simp] theorem emit_madctl (e : Event) (s : State) : (emit e s).madctl = s.madctl := rfl
@[simp] theorem emit_backlightLevel (e : Event) (s : State) : (emit e s).backlightLevel = s.backlightLevel := rfl
@[simp] theorem emit_initPhase (e : Event) (s : State) : (emit e s).initPhase = s.initPhase := rfl
@[simp] theorem emit_initPtr (e : Event) (s : State) : (emit e s).initPtr = s.initPtr := rfl
@[simp] theorem emit_buf (e : Event) (s : State) : (emit e s).buf = s.buf := rfl
@[simp] theorem emit_faultIdleStream (e : Event) (s : State) : (emit e s).faultIdleStream = s.faultIdleStream := rfl
@[simp] theorem emit_trace (e : Event) (s : State) : (emit e s).trace = s.trace ++ [e] := rfl
@[simp] theorem emit_results (e : Event) (s : State) : (emit e s).results = s.results := rfl
@[simp] theorem emit_hostIn (e : Event) (s : State) : (emit e s).hostIn = s.hostIn := rfl
@[simp] theorem emit_frameIn (e : Event) (s : State) : (emit e s).frameIn = s.frameIn := rfl
@[simp] theorem emit_stallAt (e : Event) (s : State) : (emit e s).stallAt = s.stallAt := rfl
@[simp] theorem emit_freeCount (e : Event) (s : State) : (emit e s).freeCount = s.freeCount := rfl

/-! `setGate` -/

@[simp] theorem setGate_cfg (g : Bool) (s : State) : (setGate g s).cfg = s.cfg := rfl
@[simp] theorem setGate_width (g : Bool) (s : State) : (setGate g s).width = s.width := rfl
@[simp] theorem setGate_height (g : Bool) (s : State) : (setGate g s).height = s.height := rfl
@[simp] theorem setGate_rotation (g : Bool) (s : State) : (setGate g s).rotation = s.rotation := rfl
@[simp] theorem setGate_inTx (g : Bool) (s : State) : (setGate g s).inTx = g := rfl
@[simp] theorem setGate_spiFrequency (g : Bool) (s : State) : (setGate g s).spiFrequency = s.spiFrequency := rfl
@[simp] theorem setGate_cachedX0 (g : Bool) (s : State) : (setGate g s).cachedX0 = s.cachedX0 := rfl
@[simp] theorem setGate_cachedX1 (g : Bool) (s : State) : (setGate g s).cachedX1 = s.cachedX1 := rfl
@[simp] theorem setGate_cachedY0 (g : Bool) (s : State) : (setGate g s).cachedY0 = s.cachedY0 := rfl
@[simp] theorem setGate_cachedY1 (g : Bool) (s : State) : (setGate g s).cachedY1 = s.cachedY1 := rfl
@[simp] theorem setGate_colStart (g : Bool) (s : State) : (setGate g s).colStart = s.colStart := rfl
@[simp] theorem setGate_rowStart (g : Bool) (s : State) : (setGate g s).rowStart = s.rowStart := rfl
@[simp] theorem setGate_madctl (g : Bool) (s : State) : (setGate g s).madctl = s.madctl := rfl
@[simp] theorem setGate_backlightLevel (g : Bool) (s : State) : (setGate g s).backlightLevel = s.backlightLevel := rfl
@[simp] theorem setGate_initPhase (g : Bool) (s : State) : (setGate g s).initPhase = s.initPhase := rfl
@[simp] theorem setGate_initPtr (g : Bool) (s : State) : (setGate g s).initPtr = s.initPtr := rfl
@[simp] theorem setGate_buf (g : Bool) (s : State) : (setGate g s).buf = s.buf := rfl
@[simp] theorem setGate_faultIdleStream (g : Bool) (s : State) : (setGate g s).faultIdleStream = s.faultIdleStream := rfl
@[simp] theorem setGate_trace (g : Bool) (s : State) : (setGate g s).trace = s.trace := rfl
@[simp] theorem setGate_results (g : Bool) (s : State) : (setGate g s).results = s.results := rfl
@[simp] theorem setGate_hostIn (g : Bool) (s : State) : (setGate g s).hostIn = s.hostIn := rfl
@[simp] theorem setGate_frameIn (g : Bool) (s : State) : (setGate g s).frameIn = s.frameIn := rfl
@[simp] theorem setGate_stallAt (g : Bool) (s : State) : (setGate g s).stallAt = s.stallAt := rfl
@[simp] theorem setGate_freeCount (g : Bool) (s : State) : (setGate g s).freeCount = s.freeCount := rfl

/-! `memWriteBuf` -/

@[simp] theorem memWriteBuf_cfg (i : Nat) (v : U16) (s : State) : (memWriteBuf i v s).cfg = s.cfg := rfl
@[simp] theorem memWriteBuf_width (i : Nat) (v : U16) (s : State) : (memWriteBuf i v s).width = s.width := rfl
@[simp] theorem memWriteBuf_height (i : Nat) (v : U16) (s : State) : (memWriteBuf i v s).height = s.height := rfl
@[simp] theorem memWriteBuf_rotation (i : Nat) (v : U16) (s : State) : (memWriteBuf i v s).rotation = s.rotation := rfl
@[simp] theorem memWriteBuf_inTx (i : Nat) (v : U16) (s : State) : (memWriteBuf i v s).inTx = s.inTx := rfl
@[simp] theorem memWriteBuf_spiFrequency (i : Nat) (v : U16) (s : State) : (memWriteBuf i v s).spiFrequency = s.spiFrequency := rfl
@[simp] theorem memWriteBuf_cachedX0 (i : Nat) (v : U16) (s : State) : (memWriteBuf i v s).cachedX0 = s.cachedX0 := rfl
@[simp] theorem memWriteBuf_cachedX1 (i : Nat) (v : U16) (s : State) : (memWriteBuf i v s).cachedX1 = s.cachedX1 := rfl
@[simp] theorem memWriteBuf_cachedY0 (i : Nat) (v : U16) (s : State) : (memWriteBuf i v s).cachedY0 = s.cachedY0 := rfl
@[simp] theorem memWriteBuf_cachedY1 (i : Nat) (v : U16) (s : State) : (memWriteBuf i v s).cachedY1 = s.cachedY1 := rfl
@[simp] theorem memWriteBuf_colStart (i : Nat) (v : U16) (s : State) : (memWriteBuf i v s).colStart = s.colStart := rfl
@[simp] theorem memWriteBuf_rowStart (i : Nat) (v : U16) (s : State) : (memWriteBuf i v s).rowStart = s.rowStart := rfl
@[simp] theorem memWriteBuf_madctl (i : Nat) (v : U16) (s : State) : (memWriteBuf i v s).madctl = s.madctl := rfl
@[simp] theorem memWriteBuf_backlightLevel (i : Nat) (v : U16) (s : State) : (memWriteBuf i v s).backlightLevel = s.backlightLevel := rfl
@[simp] theorem memWriteBuf_initPhase (i : Nat) (v : U16) (s : State) : (memWriteBuf i v s).initPhase = s.initPhase := rfl
@[simp] theorem memWriteBuf_initPtr (i : Nat) (v : U16) (s : State) : (memWriteBuf i v s).initPtr = s.initPtr := rfl
@[simp] theorem memWriteBuf_buf (i : Nat) (v : U16) (s : State) : (memWriteBuf i v s).buf = s.buf.setIfInBounds i v := rfl
@[simp] theorem memWriteBuf_faultIdleStream (i : Nat) (v : U16) (s : State) : (memWriteBuf i v s).faultIdleStream = s.faultIdleStream := rfl
@[simp] theorem memWriteBuf_trace (i : Nat) (v : U16) (s : State) : (memWriteBuf i v s).trace = s.trace := rfl
@[simp] theorem memWriteBuf_results (i : Nat) (v : U16) (s : State) : (memWriteBuf i v s).results = s.results := rfl
@[simp] theorem memWriteBuf_hostIn (i : Nat) (v : U16) (s : State) : (memWriteBuf i v s).hostIn = s.hostIn := rfl
@[simp] theorem memWriteBuf_frameIn (i : Nat) (v : U16) (s : State) : (memWriteBuf i v s).frameIn = s.frameIn := rfl
@[simp] theorem memWriteBuf_stallAt (i : Nat) (v : U16) (s : State) : (memWriteBuf i v s).stallAt = s.stallAt := rfl
@[simp] theorem memWriteBuf_freeCount (i : Nat) (v : U16) (s : State) : (memWriteBuf i v s).freeCount = s.freeCount := rfl

/-! `setCacheX` -/

@[simp] theorem setCacheX_cfg (a b : U16) (s : State) : (setCacheX a b s).cfg = s.cfg := rfl
@[simp] theorem setCacheX_width (a b : U16) (s : State) : (setCacheX a b s).width = s.width := rfl
@[simp] theorem setCacheX_height (a b : U16) (s : State) : (setCacheX a b s).height = s.height := rfl
@[simp] theorem setCacheX_rotation (a b : U16) (s : State) : (setCacheX a b s).rotation = s.rotation := rfl
@[simp] theorem setCacheX_inTx (a b : U16) (s : State) : (setCacheX a b s).inTx = s.inTx := rfl
@[simp] theorem setCacheX_spiFrequency (a b : U16) (s : State) : (setCacheX a b s).spiFrequency = s.spiFrequency := rfl
@[simp] theorem setCacheX_cachedX0 (a b : U16) (s : State) : (setCacheX a b s).cachedX0 = a := rfl
@[simp] theorem setCacheX_cachedX1 (a b : U16) (s : State) : (setCacheX a b s).cachedX1 = b := rfl
@[simp] theorem setCacheX_cachedY0 (a b : U16) (s : State) : (setCacheX a b s).cachedY0 = s.cachedY0 := rfl
@[simp] theorem setCacheX_cachedY1 (a b : U16) (s : State) : (setCacheX a b s).cachedY1 = s.cachedY1 := rfl
@[simp] theorem setCacheX_colStart (a b : U16) (s : State) : (setCacheX a b s).colStart = s.colStart := rfl
@[simp] theorem setCacheX_rowStart (a b : U16) (s : State) : (setCacheX a b s).rowStart = s.rowStart := rfl
@[simp] theorem setCacheX_madctl (a b : U16) (s : State) : (setCacheX a b s).madctl = s.madctl := rfl
@[simp] theorem setCacheX_backlightLevel (a b : U16) (s : State) : (setCacheX a b s).backlightLevel = s.backlightLevel := rfl
@[simp] theorem setCacheX_initPhase (a b : U16) (s : State) : (setCacheX a b s).initPhase = s.initPhase := rfl
@[simp] theorem setCacheX_initPtr (a b : U16) (s : State) : (setCacheX a b s).initPtr = s.initPtr := rfl
@[simp] theorem setCacheX_buf (a b : U16) (s : State) : (setCacheX a b s).buf = s.buf := rfl
@[simp] theorem setCacheX_faultIdleStream (a b : U16) (s : State) : (setCacheX a b s).faultIdleStream = s.faultIdleStream := rfl
@[simp] theorem setCacheX_trace (a b : U16) (s : State) : (setCacheX a b s).trace = s.trace := rfl
@[simp] theorem setCacheX_results (a b : U16) (s : State) : (setCacheX a b s).results = s.results := rfl
@[simp] theorem setCacheX_hostIn (a b : U16) (s : State) : (setCacheX a b s).hostIn = s.hostIn := rfl
@[simp] theorem setCacheX_frameIn (a b : U16) (s : State) : (setCacheX a b s).frameIn = s.frameIn := rfl
@[simp] theorem setCacheX_stallAt (a b : U16) (s : State) : (setCacheX a b s).stallAt = s.stallAt := rfl
@[simp] theorem setCacheX_freeCount (a b : U16) (s : State) : (setCacheX a b s).freeCount = s.freeCount := rfl

/-! `setCacheY` -/

@[simp] theorem setCacheY_cfg (a b : U16) (s : State) : (setCacheY a b s).cfg = s.cfg := rfl
@[simp] theorem setCacheY_width (a b : U16) (s : State) : (setCacheY a b s).width = s.width := rfl
@[simp] theorem setCacheY_height (a b : U16) (s : State) : (setCacheY a b s).height = s.height := rfl
@[simp] theorem setCacheY_rotation (a b : U16) (s : State) : (setCacheY a b s).rotation = s.rotation := rfl
@[simp] theorem setCacheY_inTx (a b : U16) (s : State) : (setCacheY a b s).inTx = s.inTx := rfl
@[simp] theorem setCacheY_spiFrequency (a b : U16) (s : State) : (setCacheY a b s).spiFrequency = s.spiFrequency := rfl
@[simp] theorem setCacheY_cachedX0 (a b : U16) (s : State) : (setCacheY a b s).cachedX0 = s.cachedX0 := rfl
@[simp] theorem setCacheY_cachedX1 (a b : U16) (s : State) : (setCacheY a b s).cachedX1 = s.cachedX1 := rfl
@[simp] theorem setCacheY_cachedY0 (a b : U16) (s : State) : (setCacheY a b s).cachedY0 = a := rfl
@[simp] theorem setCacheY_cachedY1 (a b : U16) (s : State) : (setCacheY a b s).cachedY1 = b := rfl
@[simp] theorem setCacheY_colStart (a b : U16) (s : State) : (setCacheY a b s).colStart = s.colStart := rfl
@[simp] theorem setCacheY_rowStart (a b : U16) (s : State) : (setCacheY a b s).rowStart = s.rowStart := rfl
@[simp] theorem setCacheY_madctl (a b : U16) (s : State) : (setCacheY a b s).madctl = s.madctl := rfl
@[simp] theorem setCacheY_backlightLevel (a b : U16) (s : State) : (setCacheY a b s).backlightLevel = s.backlightLevel := rfl
@[simp] theorem setCacheY_initPhase (a b : U16) (s : State) : (setCacheY a b s).initPhase = s.initPhase := rfl
@[simp] theorem setCacheY_initPtr (a b : U16) (s : State) : (setCacheY a b s).initPtr = s.initPtr := rfl
@[simp] theorem setCacheY_buf (a b : U16) (s : State) : (setCacheY a b s).buf = s.buf := rfl
@[simp] theorem setCacheY_faultIdleStream (a b : U16) (s : State) : (setCacheY a b s).faultIdleStream = s.faultIdleStream := rfl
@[simp] theorem setCacheY_trace (a b : U16) (s : State) : (setCacheY a b s).trace = s.trace := rfl
@[simp] theorem setCacheY_results (a b : U16) (s : State) : (setCacheY a b s).results = s.results := rfl
@[simp] theorem setCacheY_hostIn (a b : U16) (s : State) : (setCacheY a b s).hostIn = s.hostIn := rfl
@[simp] theorem setCacheY_frameIn (a b : U16) (s : State) : (setCacheY a b s).frameIn = s.frameIn := rfl
@[simp] theorem setCacheY_stallAt (a b : U16) (s : State) : (setCacheY a b s).stallAt = s.stallAt := rfl
@[simp] theorem setCacheY_freeCount (a b : U16) (s : State) : (setCacheY a b s).freeCount = s.freeCount := rfl

/-! `returnValue` -/

@[simp] theorem returnValue_cfg (v : Result) (s : State) : (returnValue v s).cfg = s.cfg := rfl
@[simp] theorem returnValue_width (v : Result) (s : State) : (returnValue v s).width = s.width := rfl
@[simp] theorem returnValue_height (v : Result) (s : State) : (returnValue v s).height = s.height := rfl
@[simp] theorem returnValue_rotation (v : Result) (s : State) : (returnValue v s).rotation = s.rotation := rfl
@[simp] theorem returnValue_inTx (v : Result) (s : State) : (returnValue v s).inTx = s.inTx := rfl
@[simp] theorem returnValue_spiFrequency (v : Result) (s : State) : (returnValue v s).spiFrequency = s.spiFrequency := rfl
@[simp] theorem returnValue_cachedX0 (v : Result) (s : State) : (returnValue v s).cachedX0 = s.cachedX0 := rfl
@[simp] theorem returnValue_cachedX1 (v : Result) (s : State) : (returnValue v s).cachedX1 = s.cachedX1 := rfl
@[simp] theorem returnValue_cachedY0 (v : Result) (s : State) : (returnValue v s).cachedY0 = s.cachedY0 := rfl
@[simp] theorem returnValue_cachedY1 (v : Result) (s : State) : (returnValue v s).cachedY1 = s.cachedY1 := rfl
@[simp] theorem returnValue_colStart (v : Result) (s : State) : (returnValue v s).colStart = s.colStart := rfl
@[simp] theorem returnValue_rowStart (v : Result) (s : State) : (returnValue v s).rowStart = s.rowStart := rfl
@[simp] theorem returnValue_madctl (v : Result) (s : State) : (returnValue v s).madctl = s.madctl := rfl
@[simp] theorem returnValue_backlightLevel (v : Result) (s : State) : (returnValue v s).backlightLevel = s.backlightLevel := rfl
@[simp] theorem returnValue_initPhase (v : Result) (s : State) : (returnValue v s).initPhase = s.initPhase := rfl
@[simp] theorem returnValue_initPtr (v : Result) (s : State) : (returnValue v s).initPtr = s.initPtr := rfl
@[simp] theorem returnValue_buf (v : Result) (s : State) : (returnValue v s).buf = s.buf := rfl
@[simp] theorem returnValue_faultIdleStream (v : Result) (s : State) : (returnValue v s).faultIdleStream = s.faultIdleStream := rfl
@[simp] theorem returnValue_trace (v : Result) (s : State) : (returnValue v s).trace = s.trace := rfl
@[simp] theorem returnValue_results (v : Result) (s : State) : (returnValue v s).results = s.results ++ [v] := rfl
@[simp] theorem returnValue_hostIn (v : Result) (s : State) : (returnValue v s).hostIn = s.hostIn := rfl
@[simp] theorem returnValue_frameIn (v : Result) (s : State) : (returnValue v s).frameIn = s.frameIn := rfl
@[simp] theorem returnValue_stallAt (v : Result) (s : State) : (returnValue v s).stallAt = s.stallAt := rfl
@[simp] theorem returnValue_freeCount (v : Result) (s : State) : (returnValue v s).freeCount = s.freeCount := rfl

/-! `setMadctl` -/

@[simp] theorem setMadctl_cfg (m : Byte) (s : State) : (setMadctl m s).cfg = s.cfg := rfl
@[simp] theorem setMadctl_width (m : Byte) (s : State) : (setMadctl m s).width = s.width := rfl
@[simp] theorem setMadctl_height (m : Byte) (s : State) : (setMadctl m s).height = s.height := rfl
@[simp] theorem setMadctl_rotation (m : Byte) (s : State) : (setMadctl m s).rotation = s.rotation := rfl
@[simp] theorem setMadctl_inTx (m : Byte) (s : State) : (setMadctl m s).inTx = s.inTx := rfl
@[simp] theorem setMadctl_spiFrequency (m : Byte) (s : State) : (setMadctl m s).spiFrequency = s.spiFrequency := rfl
@[simp] theorem setMadctl_cachedX0 (m : Byte) (s : State) : (setMadctl m s).cachedX0 = s.cachedX0 := rfl
@[simp] theorem setMadctl_cachedX1 (m : Byte) (s : State) : (setMadctl m s).cachedX1 = s.cachedX1 := rfl
@[simp] theorem setMadctl_cachedY0 (m : Byte) (s : State) : (setMadctl m s).cachedY0 = s.cachedY0 := rfl
@[simp] theorem setMadctl_cachedY1 (m : Byte) (s : State) : (setMadctl m s).cachedY1 = s.cachedY1 := rfl
@[simp] theorem setMadctl_colStart (m : Byte) (s : State) : (setMadctl m s).colStart = s.colStart := rfl
@[simp] theorem setMadctl_rowStart (m : Byte) (s : State) : (setMadctl m s).rowStart = s.rowStart := rfl
@[simp] theorem setMadctl_madctl (m : Byte) (s : State) : (setMadctl m s).madctl = m := rfl
@[simp] theorem setMadctl_backlightLevel (m : Byte) (s : State) : (setMadctl m s).backlightLevel = s.backlightLevel := rfl
@[simp] theorem setMadctl_initPhase (m : Byte) (s : State) : (setMadctl m s).initPhase = s.initPhase := rfl
@[simp] theorem setMadctl_initPtr (m : Byte) (s : State) : (setMadctl m s).initPtr = s.initPtr := rfl
@[simp] theorem setMadctl_buf (m : Byte) (s : State) : (setMadctl m s).buf = s.buf := rfl
@[simp] theorem setMadctl_faultIdleStream (m : Byte) (s : State) : (setMadctl m s).faultIdleStream = s.faultIdleStream := rfl
@[simp] theorem setMadctl_trace (m : Byte) (s : State) : (setMadctl m s).trace = s.trace := rfl
@[simp] theorem setMadctl_results (m : Byte) (s : State) : (setMadctl m s).results = s.results := rfl
@[simp] theorem setMadctl_hostIn (m : Byte) (s : State) : (setMadctl m s).hostIn = s.hostIn := rfl
@[simp] theorem setMadctl_frameIn (m : Byte) (s : State) : (setMadctl m s).frameIn = s.frameIn := rfl
@[simp] theorem setMadctl_stallAt (m : Byte) (s : State) : (setMadctl m s).stallAt = s.stallAt := rfl
@[simp] theorem setMadctl_freeCount (m : Byte) (s : State) : (setMadctl m s).freeCount = s.freeCount := rfl

/-! `clearOffsets` -/

@[simp] theorem clearOffsets_cfg (s : State) : (clearOffsets s).cfg = s.cfg := rfl
@[simp] theorem clearOffsets_width (s : State) : (clearOffsets s).width = s.width := rfl
@[simp] theorem clearOffsets_height (s : State) : (clearOffsets s).height = s.height := rfl
@[simp] theorem clearOffsets_rotation (s : State) : (clearOffsets s).rotation = s.rotation := rfl
@[simp] theorem clearOffsets_inTx (s : State) : (clearOffsets s).inTx = s.inTx := rfl
@[simp] theorem clearOffsets_spiFrequency (s : State) : (clearOffsets s).spiFrequency = s.spiFrequency := rfl
@[simp] theorem clearOffsets_cachedX0 (s : State) : (clearOffsets s).cachedX0 = s.cachedX0 := rfl
@[simp] theorem clearOffsets_cachedX1 (s : State) : (clearOffsets s).cachedX1 = s.cachedX1 := rfl
@[simp] theorem clearOffsets_cachedY0 (s : State) : (clearOffsets s).cachedY0 = s.cachedY0 := rfl
@[simp] theorem clearOffsets_cachedY1 (s : State) : (clearOffsets s).cachedY1 = s.cachedY1 := rfl
@[simp] theorem clearOffsets_colStart (s : State) : (clearOffsets s).colStart = 0 := rfl
@[simp] theorem clearOffsets_rowStart (s : State) : (clearOffsets s).rowStart = 0 := rfl
@[simp] theorem clearOffsets_madctl (s : State) : (clearOffsets s).madctl = s.madctl := rfl
@[simp] theorem clearOffsets_backlightLevel (s : State) : (clearOffsets s).backlightLevel = s.backlightLevel := rfl
@[simp] theorem clearOffsets_initPhase (s : State) : (clearOffsets s).initPhase = s.initPhase := rfl
@[simp] theorem clearOffsets_initPtr (s : State) : (clearOffsets s).initPtr = s.initPtr := rfl
@[simp] theorem clearOffsets_buf (s : State) : (clearOffsets s).buf = s.buf := rfl
@[simp] theorem clearOffsets_faultIdleStream (s : State) : (clearOffsets s).faultIdleStream = s.faultIdleStream := rfl
@[simp] theorem clearOffsets_trace (s : State) : (clearOffsets s).trace = s.trace := rfl
@[simp] theorem clearOffsets_results (s : State) : (clearOffsets s).results = s.results := rfl
@[simp] theorem clearOffsets_hostIn (s : State) : (clearOffsets s).hostIn = s.hostIn := rfl
@[simp] theorem clearOffsets_frameIn (s : State) : (clearOffsets s).frameIn = s.frameIn := rfl
@[simp] theorem clearOffsets_stallAt (s : State) : (clearOffsets s).stallAt = s.stallAt := rfl
@[simp] theorem clearOffsets_freeCount (s : State) : (clearOffsets s).freeCount = s.freeCount := rfl

/-! `setInitPtr` -/

@[simp] theorem setInitPtr_cfg (p : Nat) (s : State) : (setInitPtr p s).cfg = s.cfg := rfl
@[simp] theorem setInitPtr_width (p : Nat) (s : State) : (setInitPtr p s).width = s.width := rfl
@[simp] theorem setInitPtr_height (p : Nat) (s : State) : (setInitPtr p s).height = s.height := rfl
@[simp] theorem setInitPtr_rotation (p : Nat) (s : State) : (setInitPtr p s).rotation = s.rotation := rfl
@[simp] theorem setInitPtr_inTx (p : Nat) (s : State) : (setInitPtr p s).inTx = s.inTx := rfl
@[simp] theorem setInitPtr_spiFrequency (p : Nat) (s : State) : (setInitPtr p s).spiFrequency = s.spiFrequency := rfl
@[simp] theorem setInitPtr_cachedX0 (p : Nat) (s : State) : (setInitPtr p s).cachedX0 = s.cachedX0 := rfl
@[simp] theorem setInitPtr_cachedX1 (p : Nat) (s : State) : (setInitPtr p s).cachedX1 = s.cachedX1 := rfl
@[simp] theorem setInitPtr_cachedY0 (p : Nat) (s : State) : (setInitPtr p s).cachedY0 = s.cachedY0 := rfl
@[simp] theorem setInitPtr_cachedY1 (p : Nat) (s : State) : (setInitPtr p s).cachedY1 = s.cachedY1 := rfl
@[simp] theorem setInitPtr_colStart (p : Nat) (s : State) : (setInitPtr p s).colStart = s.colStart := rfl
@[simp] theorem setInitPtr_rowStart (p : Nat) (s : State) : (setInitPtr p s).rowStart = s.rowStart := rfl
@[simp] theorem setInitPtr_madctl (p : Nat) (s : State) : (setInitPtr p s).madctl = s.madctl := rfl
@[simp] theorem setInitPtr_backlightLevel (p : Nat) (s : State) : (setInitPtr p s).backlightLevel = s.backlightLevel := rfl
@[simp] theorem setInitPtr_initPhase (p : Nat) (s : State) : (setInitPtr p s).initPhase = s.initPhase := rfl
@[simp] theorem setInitPtr_initPtr (p : Nat) (s : State) : (setInitPtr p s).initPtr = p := rfl
@[simp] theorem setInitPtr_buf (p : Nat) (s : State) : (setInitPtr p s).buf = s.buf := rfl
@[simp] theorem setInitPtr_faultIdleStream (p : Nat) (s : State) : (setInitPtr p s).faultIdleStream = s.faultIdleStream := rfl
@[simp] theorem setInitPtr_trace (p : Nat) (s : State) : (setInitPtr p s).trace = s.trace := rfl
@[simp] theorem setInitPtr_results (p : Nat) (s : State) : (setInitPtr p s).results = s.results := rfl
@[simp] theorem setInitPtr_hostIn (p : Nat) (s : State) : (setInitPtr p s).hostIn = s.hostIn := rfl
@[simp] theorem setInitPtr_frameIn (p : Nat) (s : State) : (setInitPtr p s).frameIn = s.frameIn := rfl
@[simp] theorem setInitPtr_stallAt (p : Nat) (s : State) : (setInitPtr p s).stallAt = s.stallAt := rfl
@[simp] theorem setInitPtr_freeCount (p : Nat) (s : State) : (setInitPtr p s).freeCount = s.freeCount := rfl

/-! `setInitPhase` -/

@[simp] theorem setInitPhase_cfg (p : InitPhase) (s : State) : (setInitPhase p s).cfg = s.cfg := rfl
@[simp] theorem setInitPhase_width (p : InitPhase) (s : State) : (setInitPhase p s).width = s.width := rfl
@[simp] theorem setInitPhase_height (p : InitPhase) (s : State) : (setInitPhase p s).height = s.height := rfl
@[simp] theorem setInitPhase_rotation (p : InitPhase) (s : State) : (setInitPhase p s).rotation = s.rotation := rfl
@[simp] theorem setInitPhase_inTx (p : InitPhase) (s : State) : (setInitPhase p s).inTx = s.inTx := rfl
@[simp] theorem setInitPhase_spiFrequency (p : InitPhase) (s : State) : (setInitPhase p s).spiFrequency = s.spiFrequency := rfl
@[simp] theorem setInitPhase_cachedX0 (p : InitPhase) (s : State) : (setInitPhase p s).cachedX0 = s.cachedX0 := rfl
@[simp] theorem setInitPhase_cachedX1 (p : InitPhase) (s : State) : (setInitPhase p s).cachedX1 = s.cachedX1 := rfl
@[simp] theorem setInitPhase_cachedY0 (p : InitPhase) (s : State) : (setInitPhase p s).cachedY0 = s.cachedY0 := rfl
@[simp] theorem setInitPhase_cachedY1 (p : InitPhase) (s : State) : (setInitPhase p s).cachedY1 = s.cachedY1 := rfl
@[simp] theorem setInitPhase_colStart (p : InitPhase) (s : State) : (setInitPhase p s).colStart = s.colStart := rfl
@[simp] theorem setInitPhase_rowStart (p : InitPhase) (s : State) : (setInitPhase p s).rowStart = s.rowStart := rfl
@[simp] theorem setInitPhase_madctl (p : InitPhase) (s : State) : (setInitPhase p s).madctl = s.madctl := rfl
@[simp] theorem setInitPhase_backlightLevel (p : InitPhase) (s : State) : (setInitPhase p s).backlightLevel = s.backlightLevel := rfl
@[simp] theorem setInitPhase_initPhase (p : InitPhase) (s : State) : (setInitPhase p s).initPhase = p := rfl
@[simp] theorem setInitPhase_initPtr (p : InitPhase) (s : State) : (setInitPhase p s).initPtr = s.initPtr := rfl
@[simp] theorem setInitPhase_buf (p : InitPhase) (s : State) : (setInitPhase p s).buf = s.buf := rfl
@[simp] theorem setInitPhase_faultIdleStream (p : InitPhase) (s : State) : (setInitPhase p s).faultIdleStream = s.faultIdleStream := rfl
@[simp] theorem setInitPhase_trace (p : InitPhase) (s : State) : (setInitPhase p s).trace = s.trace := rfl
@[simp] theorem setInitPhase_results (p : InitPhase) (s : State) : (setInitPhase p s).results = s.results := rfl
@[simp] theorem setInitPhase_hostIn (p : InitPhase) (s : State) : (setInitPhase p s).hostIn = s.hostIn := rfl
@[simp] theorem setInitPhase_frameIn (p : InitPhase) (s : State) : (setInitPhase p s).frameIn = s.frameIn := rfl
@[simp] theorem setInitPhase_stallAt (p : InitPhase) (s : State) : (setInitPhase p s).stallAt = s.stallAt := rfl
@[simp] theorem setInitPhase_freeCount (p : InitPhase) (s : State) : (setInitPhase p s).freeCount = s.freeCount := rfl

/-! `storeBacklight` -/

@[simp] theorem storeBacklight_cfg (l : Byte) (s : State) : (storeBacklight l s).cfg = s.cfg := rfl
@[simp] theorem storeBacklight_width (l : Byte) (s : State) : (storeBacklight l s).width = s.width := rfl
@[simp] theorem storeBacklight_height (l : Byte) (s : State) : (storeBacklight l s).height = s.height := rfl
@[simp] theorem storeBacklight_rotation (l : Byte) (s : State) : (storeBacklight l s).rotation = s.rotation := rfl
@[simp] theorem storeBacklight_inTx (l : Byte) (s : State) : (storeBacklight l s).inTx = s.inTx := rfl
@[simp] theorem storeBacklight_spiFrequency (l : Byte) (s : State) : (storeBacklight l s).spiFrequency = s.spiFrequency := rfl
@[simp] theorem storeBacklight_cachedX0 (l : Byte) (s : State) : (storeBacklight l s).cachedX0 = s.cachedX0 := rfl
@[simp] theorem storeBacklight_cachedX1 (l : Byte) (s : State) : (storeBacklight l s).cachedX1 = s.cachedX1 := rfl
@[simp] theorem storeBacklight_cachedY0 (l : Byte) (s : State) : (storeBacklight l s).cachedY0 = s.cachedY0 := rfl
@[simp] theorem storeBacklight_cachedY1 (l : Byte) (s : State) : (storeBacklight l s).cachedY1 = s.cachedY1 := rfl
@[simp] theorem storeBacklight_colStart (l : Byte) (s : State) : (storeBacklight l s).colStart = s.colStart := rfl
@[simp] theorem storeBacklight_rowStart (l : Byte) (s : State) : (storeBacklight l s).rowStart = s.rowStart := rfl
@[simp] theorem storeBacklight_madctl (l : Byte) (s : State) : (storeBacklight l s).madctl = s.madctl := rfl
@[simp] theorem storeBacklight_backlightLevel (l : Byte) (s : State) : (storeBacklight l s).backlightLevel = l := rfl
@[simp] theorem storeBacklight_initPhase (l : Byte) (s : State) : (storeBacklight l s).initPhase = s.initPhase := rfl
@[simp] theorem storeBacklight_initPtr (l : Byte) (s : State) : (storeBacklight l s).initPtr = s.initPtr := rfl
@[simp] theorem storeBacklight_buf (l : Byte) (s : State) : (storeBacklight l s).buf = s.buf := rfl
@[simp] theorem storeBacklight_faultIdleStream (l : Byte) (s : State) : (storeBacklight l s).faultIdleStream = s.faultIdleStream := rfl
@[simp] theorem storeBacklight_trace (l : Byte) (s : State) : (storeBacklight l s).trace = s.trace := rfl
@[simp] theorem storeBacklight_results (l : Byte) (s : State) : (storeBacklight l s).results = s.results := rfl
@[simp] theorem storeBacklight_hostIn (l : Byte) (s : State) : (storeBacklight l s).hostIn = s.hostIn := rfl
@[simp] theorem storeBacklight_frameIn (l : Byte) (s : State) : (storeBacklight l s).frameIn = s.frameIn := rfl
@[simp] theorem storeBacklight_stallAt (l : Byte) (s : State) : (storeBacklight l s).stallAt = s.stallAt := rfl
@[simp] theorem storeBacklight_freeCount (l : Byte) (s : State) : (storeBacklight l s).freeCount = s.freeCount := rfl

/-! `takeFree` -/

@[simp] theorem takeFree_cfg (s : State) : (takeFree s).cfg = s.cfg := rfl
@[simp] theorem takeFree_width (s : State) : (takeFree s).width = s.width := rfl
@[simp] theorem takeFree_height (s : State) : (takeFree s).height = s.height := rfl
@[simp] theorem takeFree_rotation (s : State) : (takeFree s).rotation = s.rotation := rfl
@[simp] theorem takeFree_inTx (s : State) : (takeFree s).inTx = s.inTx := rfl
@[simp] theorem takeFree_spiFrequency (s : State) : (takeFree s).spiFrequency = s.spiFrequency := rfl
@[simp] theorem takeFree_cachedX0 (s : State) : (takeFree s).cachedX0 = s.cachedX0 := rfl
@[simp] theorem takeFree_cachedX1 (s : State) : (takeFree s).cachedX1 = s.cachedX1 := rfl
@[simp] theorem takeFree_cachedY0 (s : State) : (takeFree s).cachedY0 = s.cachedY0 := rfl
@[simp] theorem takeFree_cachedY1 (s : State) : (takeFree s).cachedY1 = s.cachedY1 := rfl
@[simp] theorem takeFree_colStart (s : State) : (takeFree s).colStart = s.colStart := rfl
@[simp] theorem takeFree_rowStart (s : State) : (takeFree s).rowStart = s.rowStart := rfl
@[simp] theorem takeFree_madctl (s : State) : (takeFree s).madctl = s.madctl := rfl
@[simp] theorem takeFree_backlightLevel (s : State) : (takeFree s).backlightLevel = s.backlightLevel := rfl
@[simp] theorem takeFree_initPhase (s : State) : (takeFree s).initPhase = s.initPhase := rfl
@[simp] theorem takeFree_initPtr (s : State) : (takeFree s).initPtr = s.initPtr := rfl
@[simp] theorem takeFree_buf (s : State) : (takeFree s).buf = s.buf := rfl
@[simp] theorem takeFree_faultIdleStream (s : State) : (takeFree s).faultIdleStream = s.faultIdleStream := rfl
@[simp] theorem takeFree_trace (s : State) : (takeFree s).trace = s.trace := rfl
@[simp] theorem takeFree_results (s : State) : (takeFree s).results = s.results := rfl
@[simp] theorem takeFree_hostIn (s : State) : (takeFree s).hostIn = s.hostIn := rfl
@[simp] theorem takeFree_frameIn (s : State) : (takeFree s).frameIn = s.frameIn := rfl
@[simp] theorem takeFree_stallAt (s : State) : (takeFree s).stallAt = s.stallAt := rfl
@[simp] theorem takeFree_freeCount (s : State) : (takeFree s).freeCount = s.freeCount + 1 := rfl

/-! `State.log` -/

@[simp] theorem log_cfg (s : State) (es : List Event) : (s.log es).cfg = s.cfg := rfl
@[simp] theorem log_width (s : State) (es : List Event) : (s.log es).width = s.width := rfl
@[simp] theorem log_height (s : State) (es : List Event) : (s.log es).height = s.height := rfl
@[simp] theorem log_rotation (s : State) (es : List Event) : (s.log es).rotation = s.rotation := rfl
@[simp] theorem log_inTx (s : State) (es : List Event) : (s.log es).inTx = s.inTx := rfl
@[simp] theorem log_spiFrequency (s : State) (es : List Event) : (s.log es).spiFrequency = s.spiFrequency := rfl
@[simp] theorem log_cachedX0 (s : State) (es : List Event) : (s.log es).cachedX0 = s.cachedX0 := rfl
@[simp] theorem log_cachedX1 (s : State) (es : List Event) : (s.log es).cachedX1 = s.cachedX1 := rfl
@[simp] theorem log_cachedY0 (s : State) (es : List Event) : (s.log es).cachedY0 = s.cachedY0 := rfl
@[simp] theorem log_cachedY1 (s : State) (es : List Event) : (s.log es).cachedY1 = s.cachedY1 := rfl
@[simp] theorem log_colStart (s : State) (es : List Event) : (s.log es).colStart = s.colStart := rfl
@[simp] theorem log_rowStart (s : State) (es : List Event) : (s.log es).rowStart = s.rowStart := rfl
@[simp] theorem log_madctl (s : State) (es : List Event) : (s.log es).madctl = s.madctl := rfl
@[simp] theorem log_backlightLevel (s : State) (es : List Event) : (s.log es).backlightLevel = s.backlightLevel := rfl
@[simp] theorem log_initPhase (s : State) (es : List Event) : (s.log es).initPhase = s.initPhase := rfl
@[simp] theorem log_initPtr (s : State) (es : List Event) : (s.log es).initPtr = s.initPtr := rfl
@[simp] theorem log_buf (s : State) (es : List Event) : (s.log es).buf = s.buf := rfl
@[simp] theorem log_faultIdleStream (s : State) (es : List Event) : (s.log es).faultIdleStream = s.faultIdleStream := rfl
@[simp] theorem log_trace (s : State) (es : List Event) : (s.log es).trace = s.trace ++ es := rfl
@[simp] theorem log_results (s : State) (es : List Event) : (s.log es).results = s.results := rfl
@[simp] theorem log_hostIn (s : State) (es : List Event) : (s.log es).hostIn = s.hostIn := rfl
@[simp] theorem log_frameIn (s : State) (es : List Event) : (s.log es).frameIn = s.frameIn := rfl
@[simp] theorem log_stallAt (s : State) (es : List Event) : (s.log es).stallAt = s.stallAt := rfl
@[simp] theorem log_freeCount (s : State) (es : List Event) : (s.log es).freeCount = s.freeCount := rfl

end Sys2Proof.Machine
end

