-- ==== Sys2Proof/Laws/Ops.lean ====
section
/-! SUPPORT. What each shared operation can do, said once: the operation equals its closed form of Machine/Effects.lean. -/

namespace Sys2Proof.Machine

theorem emit_eq_log (e : Event) (s : State) : emit e s = s.log [e] := rfl

@[simp] theorem log_log (s : State) (a b : List Event) : (s.log a).log b = s.log (a ++ b) := by
  simp [State.log]

@[simp] theorem log_nil (s : State) : s.log [] = s := by simp [State.log]

/-! ## The end of an operation -/

theorem finish_of_completes {s : State} (h : s.stallAt = none) (t : State) : finish s t = .next t := by
  simp [finish, stalls, h]

/-- An operation that emits nothing completes in every environment. -/
theorem finish_of_same_trace {s t : State} (h : t.trace = s.trace) : finish s t = .next t := by
  have : stalls s t = false := by
    unfold stalls
    split
    · rfl
    · next k _ =>
      split
      · rfl
      · rw [h, List.getElem?_eq_none (by omega)]
  simp [finish, this]

theorem finish_next {s t u : State} (h : finish s t = .next u) : u = t := by
  unfold finish at h
  split at h
  · cases h
  · cases h; rfl

theorem finish_not_refused (s t : State) (r : Refusal) : finish s t ≠ .refused r := by
  unfold finish; split <;> simp

/-! ## The gate and the command engine -/

theorem startWrite_eq (s : State) : startWrite s = s.afterOpen := by
  unfold startWrite State.afterOpen
  split
  · rfl
  · simp [emit, setGate, State.log, openEvents]

theorem endWrite_eq (s : State) : endWrite s = s.afterClose := by
  unfold endWrite State.afterClose
  split
  · simp [emit, setGate, State.log, closeEvents]
  · rfl

theorem sendCommand_eq (cmd : Byte) (data : List Byte) (delayMs : U16) (s : State) :
    sendCommand cmd data delayMs s = s.afterCommand cmd data delayMs := by
  have key : ∀ t : State,
      (let t := emit (.pinSet t.cfg.pinDc t.cfg.lvlCmd) t
       let t := emit (.busWriteByte cmd) t
       let t := selectData t
       let t := if data.isEmpty then t else emit (.busWriteBytes data) t
       if delayMs = 0 then t else emit (.sleep (delayOf delayMs)) t) = t.log (frameEvents t.cfg cmd data delayMs) := by
    intro t
    cases data <;> by_cases hd : delayMs = 0#16 <;> simp [selectData, emit_eq_log, frameEvents, hd]
  unfold sendCommand State.afterCommand commandEvents
  have k2 := fun t => key t
  simp only [selectCommand] at k2 ⊢
  rw [k2]
  cases hg : s.inTx
  · simp [startWrite, endWrite, emit_eq_log, setGate, hg, State.log, openEvents, closeEvents]
  · simp

end Sys2Proof.Machine
end

