-- ==== Sys2Proof/Laws/Window.lean ====
section
/-! SUPPORT. The address-window operation and the register writes of `setRotation` in closed form. -/

namespace Sys2Proof.Machine

/-- A command's events depend on the state only through its gate, its frequency and its configuration. -/
theorem commandEvents_congr {s t : State} (hg : t.inTx = s.inTx) (hf : t.spiFrequency = s.spiFrequency)
    (hc : t.cfg = s.cfg) (cmd : Byte) (data : List Byte) (d : U16) :
    commandEvents t cmd data d = commandEvents s cmd data d := by
  simp [commandEvents, openEvents, hg, hf, hc]

theorem updateColumns_eq (xa xb : U16) (s : State) :
    updateColumns xa xb s =
      setCacheX xa xb (s.log (if missX s xa xb then commandEvents s s.cfg.cmdCaset (rangeBytes xa xb) 0 else [])) := by
  unfold updateColumns sendCaset
  rw [sendCommand_eq]
  by_cases h : xa ≠ s.cachedX0 ∨ xb ≠ s.cachedX1
  · have hm : missX s xa xb = true := by simpa [missX] using h
    simp only [if_pos h, hm]; rfl
  · have hm : missX s xa xb = false := by simpa [missX] using h
    obtain ⟨rfl, rfl⟩ : xa = s.cachedX0 ∧ xb = s.cachedX1 := by simpa using h
    simp [hm, setCacheX]

theorem updateRows_eq (ya yb : U16) (s : State) :
    updateRows ya yb s =
      setCacheY ya yb (s.log (if missY s ya yb then commandEvents s s.cfg.cmdRaset (rangeBytes ya yb) 0 else [])) := by
  unfold updateRows sendRaset
  rw [sendCommand_eq]
  by_cases h : ya ≠ s.cachedY0 ∨ yb ≠ s.cachedY1
  · have hm : missY s ya yb = true := by simpa [missY] using h
    simp only [if_pos h, hm]; rfl
  · have hm : missY s ya yb = false := by simpa [missY] using h
    obtain ⟨rfl, rfl⟩ : ya = s.cachedY0 ∧ yb = s.cachedY1 := by simpa using h
    simp [hm, setCacheY]

/-- `setAddrWindow` in closed form (R180 to R184). -/
theorem setAddrWindow_eq (x y w h : Int) (s : State) : setAddrWindow x y w h s = s.afterWindow x y w h := by
  unfold setAddrWindow
  simp only [updateColumns_eq, updateRows_eq, sendRamwr, sendCommand_eq]
  simp [State.afterCommand, State.afterWindow, State.afterBounds, windowEvents, State.log, setCacheX, setCacheY,
    boundLo, boundHi, coord, u16OfInt, commandEvents, openEvents, missX, missY]

theorem setGeometry_eq (r : BitVec 2) (s : State) :
    setGeometry r s =
      { s with rotation := r, width := rotatedWidth s.cfg r, height := rotatedHeight s.cfg r } := by
  unfold setGeometry rotatedWidth rotatedHeight
  split <;> rfl

/-- `setRotation` in closed form (R230). -/
theorem applyRotation_eq (r : BitVec 2) (s : State) : applyRotation r s = s.afterRotation r := by
  unfold applyRotation
  simp only [setGeometry_eq, sendMadctl, sendCommand_eq]
  rfl

end Sys2Proof.Machine
end

