-- ==== Sys2Proof/Laws/Stream.lean ====
section
/-! SUPPORT. The pixel stream engines in closed form. -/

namespace Sys2Proof.Machine

/-! ## BUF -/

/-- The buffer after successive slot writes from slot `i`. -/
def slotWrites : Nat → List U16 → Vector U16 64 → Vector U16 64
  | _, [], b => b
  | i, v :: vs, b => slotWrites (i + 1) vs (b.setIfInBounds i v)

theorem memWriteBufs_eq (vs : List U16) :
    ∀ (i : Nat) (s : State), memWriteBufs i vs s = { s with buf := slotWrites i vs s.buf } := by
  induction vs with
  | nil => intro i s; rfl
  | cons v vs ih => intro i s; simp only [memWriteBufs, ih, memWriteBuf, slotWrites]

theorem getElem_slotWrites (vs : List U16) : ∀ (i : Nat) (b : Vector U16 64) (k : Nat) (hk : k < 64),
    (slotWrites i vs b)[k] = if i ≤ k ∧ k < i + vs.length then vs.getD (k - i) 0 else b[k] := by
  induction vs with
  | nil =>
    intro i b k hk
    rw [if_neg (by simp only [List.length_nil]; omega)]; rfl
  | cons v vs ih =>
    intro i b k hk
    rw [slotWrites, ih, Vector.getElem_setIfInBounds]
    simp only [List.length_cons]
    by_cases h0 : i = k
    · subst h0
      rw [if_neg (by omega), if_pos rfl, if_pos (by omega)]
      simp
    · rw [if_neg h0]
      by_cases h1 : i + 1 ≤ k ∧ k < i + 1 + vs.length
      · obtain ⟨m, rfl⟩ : ∃ m, k = i + 1 + m := ⟨k - (i + 1), by omega⟩
        rw [if_pos h1, if_pos (by omega)]
        have e1 : i + 1 + m - (i + 1) = m := by omega
        have e2 : i + 1 + m - i = m + 1 := by omega
        rw [e1, e2, List.getD_cons_succ]
      · rw [if_neg h1, if_neg (by omega)]

/-- The first slots after a load of at most 64 values are the values. -/
theorem take_slotWrites (vs : List U16) (b : Vector U16 64) (h : vs.length ≤ 64) :
    (slotWrites 0 vs b).toList.take vs.length = vs := by
  apply List.ext_getElem
  · simp [h]
  · intro k h1 h2
    have hk : k < 64 := by omega
    simp only [List.getElem_take, Vector.getElem_toList]
    rw [getElem_slotWrites _ _ _ _ hk, if_pos (by omega)]
    simp [h2]

/-! ## The solid stream (R200) -/

theorem bufBytes_replicate {color : U16} {m n : Nat} (s : State) (hm : m ≤ 64) (hn : n ≤ m) :
    bufBytes n { s with buf := slotWrites 0 (List.replicate m color) s.buf } =
      (List.replicate n (pixelBytes color)).flatten := by
  have h := take_slotWrites (List.replicate m color) s.buf (by simpa using hm)
  rw [List.length_replicate] at h
  unfold bufBytes
  have h2 : (slotWrites 0 (List.replicate m color) s.buf).toList.take n = List.replicate n color := by
    have := congrArg (List.take n) h
    rwa [List.take_take, Nat.min_eq_left hn, List.take_replicate, Nat.min_eq_left hn] at this
  simp only [h2, List.flatMap_replicate]

theorem solidChunks_zero (color : U16) : solidChunks color 0 = [] := by simp [solidChunks]

/-- The first chunk and the rest. -/
theorem solidChunks_pos (color : U16) {rem : Nat} (h : 0 < rem) :
    solidChunks color rem = solidChunk color (min rem 64) :: solidChunks color (rem - min rem 64) := by
  by_cases hs : rem < 64
  · have h1 : rem / 64 = 0 := by omega
    have h2 : rem % 64 = rem := by omega
    have h3 : min rem 64 = rem := by omega
    have h4 : rem ≠ 0 := by omega
    simp [solidChunks, h1, h2, h3, h4]
  · have h3 : min rem 64 = 64 := by omega
    obtain ⟨k, hk⟩ : ∃ k, rem / 64 = k + 1 := ⟨rem / 64 - 1, by omega⟩
    have h5 : (rem - 64) / 64 = k := by omega
    have h6 : (rem - 64) % 64 = rem % 64 := by omega
    simp only [solidChunks, h3, hk, h5, h6, List.replicate_succ, List.cons_append]

theorem repeatChunks_eq (color : U16) : ∀ (fuel rem : Nat) (s : State), rem ≤ fuel →
    (∀ n ≤ min rem 64, bufBytes n s = (List.replicate n (pixelBytes color)).flatten) →
    repeatChunks fuel rem s = s.log (solidChunks color rem) := by
  intro fuel
  induction fuel with
  | zero =>
    intro rem s h _
    obtain rfl : rem = 0 := by omega
    simp [repeatChunks, solidChunks_zero]
  | succ fuel ih =>
    intro rem s h hb
    unfold repeatChunks
    split
    · next h0 => subst h0; simp [solidChunks_zero]
    · next h0 =>
      have hs : sendChunk (min rem chunkPixels) s = s.log [solidChunk color (min rem 64)] := by
        simp only [sendChunk, chunkPixels, emit_eq_log, hb _ (Nat.le_refl _), solidChunk]
      have hc : chunkPixels = 64 := rfl
      rw [hs, hc, ih (rem - min rem 64) (s.log [solidChunk color (min rem 64)]) (by omega)
        (fun n hn => hb n (by omega)), log_log, solidChunks_pos color (by omega : 0 < rem)]
      rfl

theorem streamGuard_eq (s : State) :
    streamGuard s = { s.log (if s.inTx then [] else [.fault .idleStream]) with faultIdleStream := faultAfterStream s } := by
  unfold streamGuard faultAfterStream
  cases hg : s.inTx
  · simp [raiseFault, setFaultBit, emit, State.log]
  · simp [State.log]

/-- A stream's head: the guard, then data mode. -/
theorem streamHead_eq (s : State) :
    selectData (streamGuard s) = { s.log (streamHead s) with faultIdleStream := faultAfterStream s } := by
  rw [streamGuard_eq]
  simp [selectData, emit, State.log, streamHead]

theorem slotWrites_replicate (color : U16) (n : Nat) (b : Vector U16 64) :
    slotWrites 0 (List.replicate (min n 64) color) b = paintBuf b n color := by
  apply Vector.ext; intro k hk
  rw [getElem_slotWrites _ _ _ _ hk]
  simp only [paintBuf, Vector.getElem_ofFn, List.length_replicate]
  by_cases h : k < n
  · rw [if_pos (by omega), if_pos h]
    simp [List.getD, show k < min n 64 by omega]
  · rw [if_neg (by omega), if_neg h]

/-- `writeColorRepeated` in closed form (R200, R201). -/
theorem writeColorRepeated_eq (color : U16) (count : Nat) (s : State) :
    writeColorRepeated color count s = s.afterFill color count := by
  unfold writeColorRepeated State.afterFill
  split
  · rfl
  · dsimp only
    rw [streamHead_eq, memWriteBufs_eq, repeatChunks_eq color count count _ (Nat.le_refl _)]
    · rw [← slotWrites_replicate]
      simp [State.log, chunkPixels]
    · intro n hn
      exact bufBytes_replicate { s.log (streamHead s) with faultIdleStream := faultAfterStream s }
        (by simp only [chunkPixels]; omega) (by simp only [chunkPixels]; omega)

/-! ## The stream of a colour sequence (R207) -/

/-- The chunks from number `k` on. -/
def hostChunksFrom (colors : List U16) (k : Nat) : List Event :=
  (List.range' k ((colors.length + 63) / 64 - k)).map fun k =>
    .busWriteBytes (((colors.drop (64 * k)).take 64).flatMap pixelBytes)

/-- BUF after the chunks from number `k` on. -/
def streamBufFrom (b : Vector U16 64) (colors : List U16) (k : Nat) : Vector U16 64 :=
  Vector.ofFn fun j =>
    if 64 * k + j.val < colors.length then colors.getD (j.val + 64 * ((colors.length - 1 - j.val) / 64)) 0 else b[j.val]

theorem hostChunksFrom_done {colors : List U16} {k : Nat} (h : colors.length ≤ 64 * k) : hostChunksFrom colors k = [] := by
  have : (colors.length + 63) / 64 - k = 0 := by omega
  simp [hostChunksFrom, this]

theorem hostChunksFrom_step {colors : List U16} {k : Nat} (h : 64 * k < colors.length) :
    hostChunksFrom colors k =
      .busWriteBytes (((colors.drop (64 * k)).take 64).flatMap pixelBytes) :: hostChunksFrom colors (k + 1) := by
  obtain ⟨m, hm⟩ : ∃ m, (colors.length + 63) / 64 - k = m + 1 := ⟨(colors.length + 63) / 64 - k - 1, by omega⟩
  have h2 : (colors.length + 63) / 64 - (k + 1) = m := by omega
  simp [hostChunksFrom, hm, h2, List.range'_succ]

theorem streamBufFrom_done {b : Vector U16 64} {colors : List U16} {k : Nat} (h : colors.length ≤ 64 * k) :
    streamBufFrom b colors k = b := by
  apply Vector.ext; intro j hj
  simp only [streamBufFrom, Vector.getElem_ofFn]
  rw [if_neg (by omega)]

theorem streamBufFrom_step {b : Vector U16 64} {colors : List U16} {k : Nat} (h : 64 * k < colors.length) :
    streamBufFrom (slotWrites 0 ((colors.drop (64 * k)).take 64) b) colors (k + 1) = streamBufFrom b colors k := by
  apply Vector.ext; intro j hj
  simp only [streamBufFrom, Vector.getElem_ofFn]
  rw [getElem_slotWrites _ _ _ _ hj]
  have hl : ((colors.drop (64 * k)).take 64).length = min 64 (colors.length - 64 * k) := by simp
  rw [hl]
  by_cases h1 : 64 * (k + 1) + j < colors.length
  · rw [if_pos h1, if_pos (by omega)]
  · rw [if_neg h1]
    by_cases h2 : 64 * k + j < colors.length
    · have h3 : (colors.length - 1 - j) / 64 = k := by omega
      rw [if_pos (by omega), if_pos h2, h3]
      simp only [Nat.sub_zero, List.getD, List.getElem?_take, List.getElem?_drop, hj, if_true]
      rw [Nat.add_comm j]
    · rw [if_neg (by omega), if_neg h2]

theorem hostChunks_done {colors : List U16} {i : Nat} (h : colors.length ≤ i) (fuel : Nat) (s : State) :
    hostChunks colors fuel i s = s := by
  cases fuel with
  | zero => rfl
  | succ n => unfold hostChunks; rw [if_neg (by omega)]

theorem hostChunks_eq (colors : List U16) : ∀ (fuel k : Nat) (s : State), colors.length - 64 * k ≤ fuel →
    hostChunks colors fuel (64 * k) s =
      { s.log (hostChunksFrom colors k) with buf := streamBufFrom s.buf colors k } := by
  intro fuel
  induction fuel with
  | zero =>
    intro k s h
    rw [hostChunks, hostChunksFrom_done (by omega), streamBufFrom_done (by omega), log_nil]
  | succ fuel ih =>
    intro k s h
    by_cases h0 : 64 * k < colors.length
    · have hr : memReadHost colors (64 * k) (min (colors.length - 64 * k) 64) = (colors.drop (64 * k)).take 64 := by
        unfold memReadHost
        by_cases hn : colors.length - 64 * k ≤ 64
        · rw [Nat.min_eq_left hn, List.take_of_length_le (by simp), List.take_of_length_le (by simpa using hn)]
        · rw [Nat.min_eq_right (by omega)]
      have hl : ((colors.drop (64 * k)).take 64).length = min (colors.length - 64 * k) 64 := by
        simp [Nat.min_comm]
      have hb := take_slotWrites ((colors.drop (64 * k)).take 64) s.buf (by omega)
      rw [hl] at hb
      unfold hostChunks
      rw [if_pos h0]
      simp only [show chunkPixels = 64 from rfl, hr, memWriteBufs_eq, sendChunk, emit_eq_log, bufBytes, hb]
      by_cases hn : colors.length - 64 * k ≤ 64
      · rw [Nat.min_eq_left hn, hostChunks_done (by omega), hostChunksFrom_step h0, hostChunksFrom_done (by omega),
          ← streamBufFrom_step h0, streamBufFrom_done (by omega)]
        rfl
      · rw [Nat.min_eq_right (by omega), show 64 * k + 64 = 64 * (k + 1) by omega, ih _ _ (by omega),
          hostChunksFrom_step h0, ← streamBufFrom_step h0]
        simp [State.log]
    · rw [hostChunks_done (by omega), hostChunksFrom_done (by omega), streamBufFrom_done (by omega), log_nil]

theorem streamBufFrom_zero (b : Vector U16 64) {colors : List U16} (h : colors ≠ []) :
    streamBufFrom b colors 0 = streamBuf b colors := by
  apply Vector.ext; intro j hj
  have hp : 0 < colors.length := List.length_pos_iff.2 h
  simp only [streamBufFrom, streamBuf, Vector.getElem_ofFn]
  by_cases h1 : j < colors.length
  · rw [if_pos (by omega)]
    have h2 : j + 64 * ((colors.length - 1 - j) / 64) < colors.length := by omega
    simp [List.getD, List.getElem?_eq_getElem h2]
  · rw [if_neg (by omega)]
    have h2 : colors.length ≤ j + 64 * ((colors.length - 1 - j) / 64) := by omega
    simp [List.getD, List.getElem?_eq_none h2]

/-- `writePixels` in closed form (R207, R208). -/
theorem writePixels_eq (colors : List U16) (s : State) : writePixels colors s = s.afterPixels colors := by
  unfold writePixels State.afterPixels
  cases colors with
  | nil => rfl
  | cons c cs =>
    have hne : c :: cs ≠ [] := by simp
    have hk : hostChunks (c :: cs) (c :: cs).length 0 = hostChunks (c :: cs) (c :: cs).length (64 * 0) := rfl
    simp only [List.isEmpty_cons, Bool.false_eq_true, if_false, if_neg hne]
    rw [streamHead_eq, hk, hostChunks_eq _ _ _ _ (by omega)]
    have he : hostChunksFrom (c :: cs) 0 = hostChunkEvents (c :: cs) := by
      simp [hostChunksFrom, hostChunkEvents, List.range_eq_range']
    rw [he, ← streamBufFrom_zero s.buf hne]
    simp [State.log]

/-- `writePixel` in closed form (R205). -/
theorem writePixel_eq (x y : Int) (color : U16) (s : State) :
    writePixel x y color s = if outOfCanvas x y s then s else (s.afterWindow x y 1 1).afterPixel color := by
  unfold writePixel
  dsimp only
  rw [setAddrWindow_eq, streamHead_eq]
  simp [State.afterPixel, emit, State.log]

end Sys2Proof.Machine
end

