-- ==== Sys2Proof/Laws/Begin.lean ====
section
/-! SUPPORT. Bring-up in closed form: the phases of R161, and the replay as the entries before the first sentinel. -/

namespace Sys2Proof.Machine

theorem configurePin_eq (p : Option PinId) (lvl : Level) (s : State) :
    configurePin p lvl s = s.log (match p with | none => [] | some p => [.pinConfigOut p, .pinSet p lvl]) := by
  cases p <;> simp [configurePin, emit_eq_log]

theorem overrideSpeed_eq (speed : U32) (s : State) : overrideSpeed speed s = s.withSpeed speed := by
  unfold overrideSpeed State.withSpeed
  split <;> rfl

/-- Phases CFG and BUSINIT (R151, R152). -/
theorem configure_eq (speed : U32) (s : State) :
    initBus (configurePins speed s) = (s.withSpeed speed).log (configureEvents s.cfg) := by
  unfold initBus configurePins
  simp only [overrideSpeed_eq, configurePin_eq, emit_eq_log, log_log, log_cfg]
  simp only [State.withSpeed, configureEvents, List.append_assoc, List.cons_append, List.nil_append]
  all_goals rfl

/-- The hardware reset (R153). -/
theorem hardwareReset_eq (s : State) : hardwareReset s = s.log (resetEvents s) := by
  unfold hardwareReset resetEvents
  cases h : s.cfg.pinRst with
  | none => simp only [sendSwreset, sendCommand_eq]; rfl
  | some p => simp [emit_eq_log, tRstHigh, tRstLow, tRstSettle]

theorem commandEvents_open {s : State} (h : s.inTx = true) (cmd : Byte) (data : List Byte) (d : U16) :
    commandEvents s cmd data d = frameEvents s.cfg cmd data d := by simp [commandEvents, h]

/-- The events of replaying a list of entries up to its first sentinel. -/
def entriesEvents (cfg : Config) (es : List InitEntry) : List Event :=
  (es.takeWhile (!·.isSentinel)).flatMap fun e => frameEvents cfg e.commandByte e.payloadBytes e.postDelayMs

/-- The loop of R156 from pointer `p`, in an Open gate: it sends the entries before the next sentinel. -/
theorem replay_eq : ∀ (fuel p : Nat) (s : State), s.inTx = true → s.initPtr = p →
    s.cfg.initTable.entries.length - p ≤ fuel →
    replay fuel s =
      { s.log (entriesEvents s.cfg (s.cfg.initTable.entries.drop p)) with
        initPtr := p + ((s.cfg.initTable.entries.drop p).takeWhile (!·.isSentinel)).length } := by
  intro fuel
  induction fuel with
  | zero =>
    intro p s _ hp hl
    have hd : s.cfg.initTable.entries.drop p = [] := List.drop_eq_nil_of_le (by omega)
    subst hp
    simp [replay, hd, entriesEvents]
  | succ fuel ih =>
    intro p s hg hp hl
    subst hp
    unfold replay memReadInit
    cases he : s.cfg.initTable.entries[s.initPtr]? with
    | none =>
      have hd : s.cfg.initTable.entries.drop s.initPtr = [] :=
        List.drop_eq_nil_of_le (List.getElem?_eq_none_iff.1 he)
      simp [hd, entriesEvents]
    | some e =>
      obtain ⟨hlt, rfl⟩ := List.getElem?_eq_some_iff.1 he
      have hd := List.drop_eq_getElem_cons hlt
      dsimp only
      split
      · next hs =>
        rw [hd]
        simp only [entriesEvents, List.takeWhile_cons, hs, Bool.not_true, Bool.false_eq_true, if_false,
          List.flatMap_nil, log_nil, List.length_nil, Nat.add_zero]
      · next hs =>
        have h1 : issueEntry s.cfg.initTable.entries[s.initPtr] s =
            s.log (frameEvents s.cfg s.cfg.initTable.entries[s.initPtr].commandByte
              s.cfg.initTable.entries[s.initPtr].payloadBytes s.cfg.initTable.entries[s.initPtr].postDelayMs) := by
          rw [issueEntry, sendCommand_eq, State.afterCommand, commandEvents_open hg]
        rw [h1, ih (s.initPtr + 1) _ (by simpa using hg) (by simp) (by simp; omega)]
        rw [hd]
        simp only [entriesEvents, List.takeWhile_cons, hs, Bool.not_false, if_true, List.flatMap_cons,
          List.length_cons, State.log, setInitPtr, List.append_assoc, Nat.add_assoc,
          Nat.add_comm 1]

/-- Phases OPEN, FETCH and ISSUE (R155 to R157). -/
theorem replayTable_eq (s : State) :
    replayTable s =
      { s.log ((if s.inTx then [] else openEvents s) ++ replayEvents s.cfg) with
        inTx := true, initPtr := (replayed s.cfg).length } := by
  unfold replayTable
  dsimp only
  rw [startWrite_eq]
  have ho : s.afterOpen = { s.log (if s.inTx then [] else openEvents s) with inTx := true } := by
    unfold State.afterOpen
    cases hg : s.inTx
    · simp
    · obtain ⟨⟩ := s; simp_all
  rw [ho, replay_eq _ 0 _ (by simp) (by simp) (by simp)]
  simp [State.log, setInitPtr, replayEvents, replayed, entriesEvents]

/-- `begin` in closed form (R150, R163). -/
theorem bringUp_eq (speed : U32) (s : State) : bringUp speed s = s.afterBegin speed := by
  have hbl : ∀ t : State, setBacklightLevel blFull t =
      { t.log (match t.cfg.pinBl with | none => [] | some p => [.pinSet p .high]) with
        backlightLevel := if t.cfg.pinBl = none then t.backlightLevel else 255 } := by
    intro t
    unfold setBacklightLevel
    cases h : t.cfg.pinBl
    · simp
    · simp [storeBacklight, emit, State.log, blFull]
  unfold bringUp
  simp only [configure_eq, hardwareReset_eq, replayTable_eq, applyRotation_eq, endWrite_eq, hbl]
  have hr : ∀ es, resetEvents ((s.withSpeed speed).log es) = resetEvents (s.withSpeed speed) := fun _ => rfl
  simp only [hr, log_log]
  simp only [State.afterRotation, State.afterCommand, State.rotated, State.log, State.afterClose, if_true,
    setInitPhase, returnValue, commandEvents, List.append_assoc]
  simp only [State.afterBegin, beginEvents, List.append_assoc]
  rfl

end Sys2Proof.Machine
end

