-- ==== Sys2Proof/Laws/Effects.lean ====
section
/-! SUPPORT. One lemma per field of the state after each operation (the closed forms of Machine/Effects.lean), so that no later
proof unfolds them: the frame of each operation, field by field. -/

namespace Sys2Proof.Machine

/-! `State.afterOpen` -/

@[simp] theorem afterOpen_cfg (s : State) : s.afterOpen.cfg = s.cfg := by unfold State.afterOpen; split <;> rfl
@[simp] theorem afterOpen_width (s : State) : s.afterOpen.width = s.width := by unfold State.afterOpen; split <;> rfl
@[simp] theorem afterOpen_height (s : State) : s.afterOpen.height = s.height := by unfold State.afterOpen; split <;> rfl
@[simp] theorem afterOpen_rotation (s : State) :
    s.afterOpen.rotation = s.rotation := by unfold State.afterOpen; split <;> rfl
@[simp] theorem afterOpen_inTx (s : State) : s.afterOpen.inTx = true := by unfold State.afterOpen; split <;> simp_all
@[simp] theorem afterOpen_spiFrequency (s : State) :
    s.afterOpen.spiFrequency = s.spiFrequency := by unfold State.afterOpen; split <;> rfl
@[simp] theorem afterOpen_cachedX0 (s : State) :
    s.afterOpen.cachedX0 = s.cachedX0 := by unfold State.afterOpen; split <;> rfl
@[simp] theorem afterOpen_cachedX1 (s : State) :
    s.afterOpen.cachedX1 = s.cachedX1 := by unfold State.afterOpen; split <;> rfl
@[simp] theorem afterOpen_cachedY0 (s : State) :
    s.afterOpen.cachedY0 = s.cachedY0 := by unfold State.afterOpen; split <;> rfl
@[simp] theorem afterOpen_cachedY1 (s : State) :
    s.afterOpen.cachedY1 = s.cachedY1 := by unfold State.afterOpen; split <;> rfl
@[simp] theorem afterOpen_colStart (s : State) :
    s.afterOpen.colStart = s.colStart := by unfold State.afterOpen; split <;> rfl
@[simp] theorem afterOpen_rowStart (s : State) :
    s.afterOpen.rowStart = s.rowStart := by unfold State.afterOpen; split <;> rfl
@[simp] theorem afterOpen_madctl (s : State) : s.afterOpen.madctl = s.madctl := by unfold State.afterOpen; split <;> rfl
@[simp] theorem afterOpen_backlightLevel (s : State) :
    s.afterOpen.backlightLevel = s.backlightLevel := by unfold State.afterOpen; split <;> rfl
@[simp] theorem afterOpen_initPhase (s : State) :
    s.afterOpen.initPhase = s.initPhase := by unfold State.afterOpen; split <;> rfl
@[simp] theorem afterOpen_initPtr (s : State) :
    s.afterOpen.initPtr = s.initPtr := by unfold State.afterOpen; split <;> rfl
@[simp] theorem afterOpen_buf (s : State) : s.afterOpen.buf = s.buf := by unfold State.afterOpen; split <;> rfl
@[simp] theorem afterOpen_faultIdleStream (s : State) :
    s.afterOpen.faultIdleStream = s.faultIdleStream := by unfold State.afterOpen; split <;> rfl
@[simp] theorem afterOpen_trace (s : State) :
    s.afterOpen.trace =
      s.trace ++ (if s.inTx then [] else openEvents s) := by
  unfold State.afterOpen; split <;> simp_all
@[simp] theorem afterOpen_results (s : State) :
    s.afterOpen.results = s.results := by unfold State.afterOpen; split <;> rfl
@[simp] theorem afterOpen_hostIn (s : State) : s.afterOpen.hostIn = s.hostIn := by unfold State.afterOpen; split <;> rfl
@[simp] theorem afterOpen_frameIn (s : State) :
    s.afterOpen.frameIn = s.frameIn := by unfold State.afterOpen; split <;> rfl
@[simp] theorem afterOpen_stallAt (s : State) :
    s.afterOpen.stallAt = s.stallAt := by unfold State.afterOpen; split <;> rfl
@[simp] theorem afterOpen_freeCount (s : State) :
    s.afterOpen.freeCount = s.freeCount := by unfold State.afterOpen; split <;> rfl

/-! `State.afterClose` -/

@[simp] theorem afterClose_cfg (s : State) : s.afterClose.cfg = s.cfg := by unfold State.afterClose; split <;> rfl
@[simp] theorem afterClose_width (s : State) : s.afterClose.width = s.width := by unfold State.afterClose; split <;> rfl
@[simp] theorem afterClose_height (s : State) :
    s.afterClose.height = s.height := by unfold State.afterClose; split <;> rfl
@[simp] theorem afterClose_rotation (s : State) :
    s.afterClose.rotation = s.rotation := by unfold State.afterClose; split <;> rfl
@[simp] theorem afterClose_inTx (s : State) :
    s.afterClose.inTx = false := by unfold State.afterClose; split <;> simp_all
@[simp] theorem afterClose_spiFrequency (s : State) :
    s.afterClose.spiFrequency = s.spiFrequency := by unfold State.afterClose; split <;> rfl
@[simp] theorem afterClose_cachedX0 (s : State) :
    s.afterClose.cachedX0 = s.cachedX0 := by unfold State.afterClose; split <;> rfl
@[simp] theorem afterClose_cachedX1 (s : State) :
    s.afterClose.cachedX1 = s.cachedX1 := by unfold State.afterClose; split <;> rfl
@[simp] theorem afterClose_cachedY0 (s : State) :
    s.afterClose.cachedY0 = s.cachedY0 := by unfold State.afterClose; split <;> rfl
@[simp] theorem afterClose_cachedY1 (s : State) :
    s.afterClose.cachedY1 = s.cachedY1 := by unfold State.afterClose; split <;> rfl
@[simp] theorem afterClose_colStart (s : State) :
    s.afterClose.colStart = s.colStart := by unfold State.afterClose; split <;> rfl
@[simp] theorem afterClose_rowStart (s : State) :
    s.afterClose.rowStart = s.rowStart := by unfold State.afterClose; split <;> rfl
@[simp] theorem afterClose_madctl (s : State) :
    s.afterClose.madctl = s.madctl := by unfold State.afterClose; split <;> rfl
@[simp] theorem afterClose_backlightLevel (s : State) :
    s.afterClose.backlightLevel = s.backlightLevel := by unfold State.afterClose; split <;> rfl
@[simp] theorem afterClose_initPhase (s : State) :
    s.afterClose.initPhase = s.initPhase := by unfold State.afterClose; split <;> rfl
@[simp] theorem afterClose_initPtr (s : State) :
    s.afterClose.initPtr = s.initPtr := by unfold State.afterClose; split <;> rfl
@[simp] theorem afterClose_buf (s : State) : s.afterClose.buf = s.buf := by unfold State.afterClose; split <;> rfl
@[simp] theorem afterClose_faultIdleStream (s : State) :
    s.afterClose.faultIdleStream = s.faultIdleStream := by unfold State.afterClose; split <;> rfl
@[simp] theorem afterClose_trace (s : State) :
    s.afterClose.trace =
      s.trace ++ (if s.inTx then closeEvents s.cfg else []) := by
  unfold State.afterClose; split <;> simp_all
@[simp] theorem afterClose_results (s : State) :
    s.afterClose.results = s.results := by unfold State.afterClose; split <;> rfl
@[simp] theorem afterClose_hostIn (s : State) :
    s.afterClose.hostIn = s.hostIn := by unfold State.afterClose; split <;> rfl
@[simp] theorem afterClose_frameIn (s : State) :
    s.afterClose.frameIn = s.frameIn := by unfold State.afterClose; split <;> rfl
@[simp] theorem afterClose_stallAt (s : State) :
    s.afterClose.stallAt = s.stallAt := by unfold State.afterClose; split <;> rfl
@[simp] theorem afterClose_freeCount (s : State) :
    s.afterClose.freeCount = s.freeCount := by unfold State.afterClose; split <;> rfl

/-! `State.afterCommand` -/

@[simp] theorem afterCommand_cfg (s : State) (c : Byte) (d : List Byte) (k : U16) :
    (s.afterCommand c d k).cfg = s.cfg := rfl
@[simp] theorem afterCommand_width (s : State) (c : Byte) (d : List Byte) (k : U16) :
    (s.afterCommand c d k).width = s.width := rfl
@[simp] theorem afterCommand_height (s : State) (c : Byte) (d : List Byte) (k : U16) :
    (s.afterCommand c d k).height = s.height := rfl
@[simp] theorem afterCommand_rotation (s : State) (c : Byte) (d : List Byte) (k : U16) :
    (s.afterCommand c d k).rotation = s.rotation := rfl
@[simp] theorem afterCommand_inTx (s : State) (c : Byte) (d : List Byte) (k : U16) :
    (s.afterCommand c d k).inTx = s.inTx := rfl
@[simp] theorem afterCommand_spiFrequency (s : State) (c : Byte) (d : List Byte) (k : U16) :
    (s.afterCommand c d k).spiFrequency = s.spiFrequency := rfl
@[simp] theorem afterCommand_cachedX0 (s : State) (c : Byte) (d : List Byte) (k : U16) :
    (s.afterCommand c d k).cachedX0 = s.cachedX0 := rfl
@[simp] theorem afterCommand_cachedX1 (s : State) (c : Byte) (d : List Byte) (k : U16) :
    (s.afterCommand c d k).cachedX1 = s.cachedX1 := rfl
@[simp] theorem afterCommand_cachedY0 (s : State) (c : Byte) (d : List Byte) (k : U16) :
    (s.afterCommand c d k).cachedY0 = s.cachedY0 := rfl
@[simp] theorem afterCommand_cachedY1 (s : State) (c : Byte) (d : List Byte) (k : U16) :
    (s.afterCommand c d k).cachedY1 = s.cachedY1 := rfl
@[simp] theorem afterCommand_colStart (s : State) (c : Byte) (d : List Byte) (k : U16) :
    (s.afterCommand c d k).colStart = s.colStart := rfl
@[simp] theorem afterCommand_rowStart (s : State) (c : Byte) (d : List Byte) (k : U16) :
    (s.afterCommand c d k).rowStart = s.rowStart := rfl
@[simp] theorem afterCommand_madctl (s : State) (c : Byte) (d : List Byte) (k : U16) :
    (s.afterCommand c d k).madctl = s.madctl := rfl
@[simp] theorem afterCommand_backlightLevel (s : State) (c : Byte) (d : List Byte) (k : U16) :
    (s.afterCommand c d k).backlightLevel = s.backlightLevel := rfl
@[simp] theorem afterCommand_initPhase (s : State) (c : Byte) (d : List Byte) (k : U16) :
    (s.afterCommand c d k).initPhase = s.initPhase := rfl
@[simp] theorem afterCommand_initPtr (s : State) (c : Byte) (d : List Byte) (k : U16) :
    (s.afterCommand c d k).initPtr = s.initPtr := rfl
@[simp] theorem afterCommand_buf (s : State) (c : Byte) (d : List Byte) (k : U16) :
    (s.afterCommand c d k).buf = s.buf := rfl
@[simp] theorem afterCommand_faultIdleStream (s : State) (c : Byte) (d : List Byte) (k : U16) :
    (s.afterCommand c d k).faultIdleStream = s.faultIdleStream := rfl
@[simp] theorem afterCommand_trace (s : State) (c : Byte) (d : List Byte) (k : U16) :
    (s.afterCommand c d k).trace = s.trace ++ commandEvents s c d k := rfl
@[simp] theorem afterCommand_results (s : State) (c : Byte) (d : List Byte) (k : U16) :
    (s.afterCommand c d k).results = s.results := rfl
@[simp] theorem afterCommand_hostIn (s : State) (c : Byte) (d : List Byte) (k : U16) :
    (s.afterCommand c d k).hostIn = s.hostIn := rfl
@[simp] theorem afterCommand_frameIn (s : State) (c : Byte) (d : List Byte) (k : U16) :
    (s.afterCommand c d k).frameIn = s.frameIn := rfl
@[simp] theorem afterCommand_stallAt (s : State) (c : Byte) (d : List Byte) (k : U16) :
    (s.afterCommand c d k).stallAt = s.stallAt := rfl
@[simp] theorem afterCommand_freeCount (s : State) (c : Byte) (d : List Byte) (k : U16) :
    (s.afterCommand c d k).freeCount = s.freeCount := rfl

/-! `State.afterBounds` -/

@[simp] theorem afterBounds_cfg (s : State) (xa xb ya yb : U16) : (s.afterBounds xa xb ya yb).cfg = s.cfg := rfl
@[simp] theorem afterBounds_width (s : State) (xa xb ya yb : U16) : (s.afterBounds xa xb ya yb).width = s.width := rfl
@[simp] theorem afterBounds_height (s : State) (xa xb ya yb : U16) :
    (s.afterBounds xa xb ya yb).height = s.height := rfl
@[simp] theorem afterBounds_rotation (s : State) (xa xb ya yb : U16) :
    (s.afterBounds xa xb ya yb).rotation = s.rotation := rfl
@[simp] theorem afterBounds_inTx (s : State) (xa xb ya yb : U16) : (s.afterBounds xa xb ya yb).inTx = s.inTx := rfl
@[simp] theorem afterBounds_spiFrequency (s : State) (xa xb ya yb : U16) :
    (s.afterBounds xa xb ya yb).spiFrequency = s.spiFrequency := rfl
@[simp] theorem afterBounds_cachedX0 (s : State) (xa xb ya yb : U16) : (s.afterBounds xa xb ya yb).cachedX0 = xa := rfl
@[simp] theorem afterBounds_cachedX1 (s : State) (xa xb ya yb : U16) : (s.afterBounds xa xb ya yb).cachedX1 = xb := rfl
@[simp] theorem afterBounds_cachedY0 (s : State) (xa xb ya yb : U16) : (s.afterBounds xa xb ya yb).cachedY0 = ya := rfl
@[simp] theorem afterBounds_cachedY1 (s : State) (xa xb ya yb : U16) : (s.afterBounds xa xb ya yb).cachedY1 = yb := rfl
@[simp] theorem afterBounds_colStart (s : State) (xa xb ya yb : U16) :
    (s.afterBounds xa xb ya yb).colStart = s.colStart := rfl
@[simp] theorem afterBounds_rowStart (s : State) (xa xb ya yb : U16) :
    (s.afterBounds xa xb ya yb).rowStart = s.rowStart := rfl
@[simp] theorem afterBounds_madctl (s : State) (xa xb ya yb : U16) :
    (s.afterBounds xa xb ya yb).madctl = s.madctl := rfl
@[simp] theorem afterBounds_backlightLevel (s : State) (xa xb ya yb : U16) :
    (s.afterBounds xa xb ya yb).backlightLevel = s.backlightLevel := rfl
@[simp] theorem afterBounds_initPhase (s : State) (xa xb ya yb : U16) :
    (s.afterBounds xa xb ya yb).initPhase = s.initPhase := rfl
@[simp] theorem afterBounds_initPtr (s : State) (xa xb ya yb : U16) :
    (s.afterBounds xa xb ya yb).initPtr = s.initPtr := rfl
@[simp] theorem afterBounds_buf (s : State) (xa xb ya yb : U16) : (s.afterBounds xa xb ya yb).buf = s.buf := rfl
@[simp] theorem afterBounds_faultIdleStream (s : State) (xa xb ya yb : U16) :
    (s.afterBounds xa xb ya yb).faultIdleStream = s.faultIdleStream := rfl
@[simp] theorem afterBounds_trace (s : State) (xa xb ya yb : U16) :
    (s.afterBounds xa xb ya yb).trace = s.trace ++ windowEvents s xa xb ya yb := rfl
@[simp] theorem afterBounds_results (s : State) (xa xb ya yb : U16) :
    (s.afterBounds xa xb ya yb).results = s.results := rfl
@[simp] theorem afterBounds_hostIn (s : State) (xa xb ya yb : U16) :
    (s.afterBounds xa xb ya yb).hostIn = s.hostIn := rfl
@[simp] theorem afterBounds_frameIn (s : State) (xa xb ya yb : U16) :
    (s.afterBounds xa xb ya yb).frameIn = s.frameIn := rfl
@[simp] theorem afterBounds_stallAt (s : State) (xa xb ya yb : U16) :
    (s.afterBounds xa xb ya yb).stallAt = s.stallAt := rfl
@[simp] theorem afterBounds_freeCount (s : State) (xa xb ya yb : U16) :
    (s.afterBounds xa xb ya yb).freeCount = s.freeCount := rfl

/-! `State.afterFill` -/

@[simp] theorem afterFill_cfg (s : State) (c : U16) (n : Nat) :
    (s.afterFill c n).cfg = s.cfg := by unfold State.afterFill; split <;> rfl
@[simp] theorem afterFill_width (s : State) (c : U16) (n : Nat) :
    (s.afterFill c n).width = s.width := by unfold State.afterFill; split <;> rfl
@[simp] theorem afterFill_height (s : State) (c : U16) (n : Nat) :
    (s.afterFill c n).height = s.height := by unfold State.afterFill; split <;> rfl
@[simp] theorem afterFill_rotation (s : State) (c : U16) (n : Nat) :
    (s.afterFill c n).rotation = s.rotation := by unfold State.afterFill; split <;> rfl
@[simp] theorem afterFill_inTx (s : State) (c : U16) (n : Nat) :
    (s.afterFill c n).inTx = s.inTx := by unfold State.afterFill; split <;> rfl
@[simp] theorem afterFill_spiFrequency (s : State) (c : U16) (n : Nat) :
    (s.afterFill c n).spiFrequency = s.spiFrequency := by unfold State.afterFill; split <;> rfl
@[simp] theorem afterFill_cachedX0 (s : State) (c : U16) (n : Nat) :
    (s.afterFill c n).cachedX0 = s.cachedX0 := by unfold State.afterFill; split <;> rfl
@[simp] theorem afterFill_cachedX1 (s : State) (c : U16) (n : Nat) :
    (s.afterFill c n).cachedX1 = s.cachedX1 := by unfold State.afterFill; split <;> rfl
@[simp] theorem afterFill_cachedY0 (s : State) (c : U16) (n : Nat) :
    (s.afterFill c n).cachedY0 = s.cachedY0 := by unfold State.afterFill; split <;> rfl
@[simp] theorem afterFill_cachedY1 (s : State) (c : U16) (n : Nat) :
    (s.afterFill c n).cachedY1 = s.cachedY1 := by unfold State.afterFill; split <;> rfl
@[simp] theorem afterFill_colStart (s : State) (c : U16) (n : Nat) :
    (s.afterFill c n).colStart = s.colStart := by unfold State.afterFill; split <;> rfl
@[simp] theorem afterFill_rowStart (s : State) (c : U16) (n : Nat) :
    (s.afterFill c n).rowStart = s.rowStart := by unfold State.afterFill; split <;> rfl
@[simp] theorem afterFill_madctl (s : State) (c : U16) (n : Nat) :
    (s.afterFill c n).madctl = s.madctl := by unfold State.afterFill; split <;> rfl
@[simp] theorem afterFill_backlightLevel (s : State) (c : U16) (n : Nat) :
    (s.afterFill c n).backlightLevel = s.backlightLevel := by unfold State.afterFill; split <;> rfl
@[simp] theorem afterFill_initPhase (s : State) (c : U16) (n : Nat) :
    (s.afterFill c n).initPhase = s.initPhase := by unfold State.afterFill; split <;> rfl
@[simp] theorem afterFill_initPtr (s : State) (c : U16) (n : Nat) :
    (s.afterFill c n).initPtr = s.initPtr := by unfold State.afterFill; split <;> rfl
@[simp] theorem afterFill_buf (s : State) (c : U16) (n : Nat) :
    (s.afterFill c n).buf = if n = 0 then s.buf else paintBuf s.buf n c := by unfold State.afterFill; split <;> simp_all
@[simp] theorem afterFill_faultIdleStream (s : State) (c : U16) (n : Nat) :
    (s.afterFill c n).faultIdleStream =
      if n = 0 then s.faultIdleStream else faultAfterStream s := by
  unfold State.afterFill; split <;> simp_all
@[simp] theorem afterFill_trace (s : State) (c : U16) (n : Nat) :
    (s.afterFill c n).trace =
      s.trace ++ (if n = 0 then [] else streamHead s ++ solidChunks c n) := by
  unfold State.afterFill; split <;> simp_all
@[simp] theorem afterFill_results (s : State) (c : U16) (n : Nat) :
    (s.afterFill c n).results = s.results := by unfold State.afterFill; split <;> rfl
@[simp] theorem afterFill_hostIn (s : State) (c : U16) (n : Nat) :
    (s.afterFill c n).hostIn = s.hostIn := by unfold State.afterFill; split <;> rfl
@[simp] theorem afterFill_frameIn (s : State) (c : U16) (n : Nat) :
    (s.afterFill c n).frameIn = s.frameIn := by unfold State.afterFill; split <;> rfl
@[simp] theorem afterFill_stallAt (s : State) (c : U16) (n : Nat) :
    (s.afterFill c n).stallAt = s.stallAt := by unfold State.afterFill; split <;> rfl
@[simp] theorem afterFill_freeCount (s : State) (c : U16) (n : Nat) :
    (s.afterFill c n).freeCount = s.freeCount := by unfold State.afterFill; split <;> rfl

/-! `State.afterPixels` -/

@[simp] theorem afterPixels_cfg (s : State) (cs : List U16) :
    (s.afterPixels cs).cfg = s.cfg := by unfold State.afterPixels; split <;> rfl
@[simp] theorem afterPixels_width (s : State) (cs : List U16) :
    (s.afterPixels cs).width = s.width := by unfold State.afterPixels; split <;> rfl
@[simp] theorem afterPixels_height (s : State) (cs : List U16) :
    (s.afterPixels cs).height = s.height := by unfold State.afterPixels; split <;> rfl
@[simp] theorem afterPixels_rotation (s : State) (cs : List U16) :
    (s.afterPixels cs).rotation = s.rotation := by unfold State.afterPixels; split <;> rfl
@[simp] theorem afterPixels_inTx (s : State) (cs : List U16) :
    (s.afterPixels cs).inTx = s.inTx := by unfold State.afterPixels; split <;> rfl
@[simp] theorem afterPixels_spiFrequency (s : State) (cs : List U16) :
    (s.afterPixels cs).spiFrequency = s.spiFrequency := by unfold State.afterPixels; split <;> rfl
@[simp] theorem afterPixels_cachedX0 (s : State) (cs : List U16) :
    (s.afterPixels cs).cachedX0 = s.cachedX0 := by unfold State.afterPixels; split <;> rfl
@[simp] theorem afterPixels_cachedX1 (s : State) (cs : List U16) :
    (s.afterPixels cs).cachedX1 = s.cachedX1 := by unfold State.afterPixels; split <;> rfl
@[simp] theorem afterPixels_cachedY0 (s : State) (cs : List U16) :
    (s.afterPixels cs).cachedY0 = s.cachedY0 := by unfold State.afterPixels; split <;> rfl
@[simp] theorem afterPixels_cachedY1 (s : State) (cs : List U16) :
    (s.afterPixels cs).cachedY1 = s.cachedY1 := by unfold State.afterPixels; split <;> rfl
@[simp] theorem afterPixels_colStart (s : State) (cs : List U16) :
    (s.afterPixels cs).colStart = s.colStart := by unfold State.afterPixels; split <;> rfl
@[simp] theorem afterPixels_rowStart (s : State) (cs : List U16) :
    (s.afterPixels cs).rowStart = s.rowStart := by unfold State.afterPixels; split <;> rfl
@[simp] theorem afterPixels_madctl (s : State) (cs : List U16) :
    (s.afterPixels cs).madctl = s.madctl := by unfold State.afterPixels; split <;> rfl
@[simp] theorem afterPixels_backlightLevel (s : State) (cs : List U16) :
    (s.afterPixels cs).backlightLevel = s.backlightLevel := by unfold State.afterPixels; split <;> rfl
@[simp] theorem afterPixels_initPhase (s : State) (cs : List U16) :
    (s.afterPixels cs).initPhase = s.initPhase := by unfold State.afterPixels; split <;> rfl
@[simp] theorem afterPixels_initPtr (s : State) (cs : List U16) :
    (s.afterPixels cs).initPtr = s.initPtr := by unfold State.afterPixels; split <;> rfl
@[simp] theorem afterPixels_buf (s : State) (cs : List U16) :
    (s.afterPixels cs).buf =
      if cs = [] then s.buf else streamBuf s.buf cs := by
  unfold State.afterPixels; split <;> simp_all
@[simp] theorem afterPixels_faultIdleStream (s : State) (cs : List U16) :
    (s.afterPixels cs).faultIdleStream =
      if cs = [] then s.faultIdleStream else faultAfterStream s := by
  unfold State.afterPixels; split <;> simp_all
@[simp] theorem afterPixels_trace (s : State) (cs : List U16) :
    (s.afterPixels cs).trace =
      s.trace ++ (if cs = [] then [] else streamHead s ++ hostChunkEvents cs) := by
  unfold State.afterPixels; split <;> simp_all
@[simp] theorem afterPixels_results (s : State) (cs : List U16) :
    (s.afterPixels cs).results = s.results := by unfold State.afterPixels; split <;> rfl
@[simp] theorem afterPixels_hostIn (s : State) (cs : List U16) :
    (s.afterPixels cs).hostIn = s.hostIn := by unfold State.afterPixels; split <;> rfl
@[simp] theorem afterPixels_frameIn (s : State) (cs : List U16) :
    (s.afterPixels cs).frameIn = s.frameIn := by unfold State.afterPixels; split <;> rfl
@[simp] theorem afterPixels_stallAt (s : State) (cs : List U16) :
    (s.afterPixels cs).stallAt = s.stallAt := by unfold State.afterPixels; split <;> rfl
@[simp] theorem afterPixels_freeCount (s : State) (cs : List U16) :
    (s.afterPixels cs).freeCount = s.freeCount := by unfold State.afterPixels; split <;> rfl

/-! `State.afterPixel` -/

@[simp] theorem afterPixel_cfg (s : State) (c : U16) : (s.afterPixel c).cfg = s.cfg := rfl
@[simp] theorem afterPixel_width (s : State) (c : U16) : (s.afterPixel c).width = s.width := rfl
@[simp] theorem afterPixel_height (s : State) (c : U16) : (s.afterPixel c).height = s.height := rfl
@[simp] theorem afterPixel_rotation (s : State) (c : U16) : (s.afterPixel c).rotation = s.rotation := rfl
@[simp] theorem afterPixel_inTx (s : State) (c : U16) : (s.afterPixel c).inTx = s.inTx := rfl
@[simp] theorem afterPixel_spiFrequency (s : State) (c : U16) : (s.afterPixel c).spiFrequency = s.spiFrequency := rfl
@[simp] theorem afterPixel_cachedX0 (s : State) (c : U16) : (s.afterPixel c).cachedX0 = s.cachedX0 := rfl
@[simp] theorem afterPixel_cachedX1 (s : State) (c : U16) : (s.afterPixel c).cachedX1 = s.cachedX1 := rfl
@[simp] theorem afterPixel_cachedY0 (s : State) (c : U16) : (s.afterPixel c).cachedY0 = s.cachedY0 := rfl
@[simp] theorem afterPixel_cachedY1 (s : State) (c : U16) : (s.afterPixel c).cachedY1 = s.cachedY1 := rfl
@[simp] theorem afterPixel_colStart (s : State) (c : U16) : (s.afterPixel c).colStart = s.colStart := rfl
@[simp] theorem afterPixel_rowStart (s : State) (c : U16) : (s.afterPixel c).rowStart = s.rowStart := rfl
@[simp] theorem afterPixel_madctl (s : State) (c : U16) : (s.afterPixel c).madctl = s.madctl := rfl
@[simp] theorem afterPixel_backlightLevel (s : State) (c : U16) :
    (s.afterPixel c).backlightLevel = s.backlightLevel := rfl
@[simp] theorem afterPixel_initPhase (s : State) (c : U16) : (s.afterPixel c).initPhase = s.initPhase := rfl
@[simp] theorem afterPixel_initPtr (s : State) (c : U16) : (s.afterPixel c).initPtr = s.initPtr := rfl
@[simp] theorem afterPixel_buf (s : State) (c : U16) : (s.afterPixel c).buf = s.buf := rfl
@[simp] theorem afterPixel_faultIdleStream (s : State) (c : U16) :
    (s.afterPixel c).faultIdleStream = faultAfterStream s := rfl
@[simp] theorem afterPixel_trace (s : State) (c : U16) :
    (s.afterPixel c).trace = s.trace ++ (streamHead s ++ [.busWriteBytes (pixelBytes c)]) := rfl
@[simp] theorem afterPixel_results (s : State) (c : U16) : (s.afterPixel c).results = s.results := rfl
@[simp] theorem afterPixel_hostIn (s : State) (c : U16) : (s.afterPixel c).hostIn = s.hostIn := rfl
@[simp] theorem afterPixel_frameIn (s : State) (c : U16) : (s.afterPixel c).frameIn = s.frameIn := rfl
@[simp] theorem afterPixel_stallAt (s : State) (c : U16) : (s.afterPixel c).stallAt = s.stallAt := rfl
@[simp] theorem afterPixel_freeCount (s : State) (c : U16) : (s.afterPixel c).freeCount = s.freeCount := rfl

/-! `State.rotated` -/

@[simp] theorem rotated_cfg (s : State) (r : BitVec 2) : (s.rotated r).cfg = s.cfg := rfl
@[simp] theorem rotated_width (s : State) (r : BitVec 2) : (s.rotated r).width = rotatedWidth s.cfg r := rfl
@[simp] theorem rotated_height (s : State) (r : BitVec 2) : (s.rotated r).height = rotatedHeight s.cfg r := rfl
@[simp] theorem rotated_rotation (s : State) (r : BitVec 2) : (s.rotated r).rotation = r := rfl
@[simp] theorem rotated_inTx (s : State) (r : BitVec 2) : (s.rotated r).inTx = s.inTx := rfl
@[simp] theorem rotated_spiFrequency (s : State) (r : BitVec 2) : (s.rotated r).spiFrequency = s.spiFrequency := rfl
@[simp] theorem rotated_cachedX0 (s : State) (r : BitVec 2) : (s.rotated r).cachedX0 = 0xFFFF := rfl
@[simp] theorem rotated_cachedX1 (s : State) (r : BitVec 2) : (s.rotated r).cachedX1 = 0xFFFF := rfl
@[simp] theorem rotated_cachedY0 (s : State) (r : BitVec 2) : (s.rotated r).cachedY0 = 0xFFFF := rfl
@[simp] theorem rotated_cachedY1 (s : State) (r : BitVec 2) : (s.rotated r).cachedY1 = 0xFFFF := rfl
@[simp] theorem rotated_colStart (s : State) (r : BitVec 2) : (s.rotated r).colStart = 0 := rfl
@[simp] theorem rotated_rowStart (s : State) (r : BitVec 2) : (s.rotated r).rowStart = 0 := rfl
@[simp] theorem rotated_madctl (s : State) (r : BitVec 2) : (s.rotated r).madctl = madctlEntry s.cfg r := rfl
@[simp] theorem rotated_backlightLevel (s : State) (r : BitVec 2) :
    (s.rotated r).backlightLevel = s.backlightLevel := rfl
@[simp] theorem rotated_initPhase (s : State) (r : BitVec 2) : (s.rotated r).initPhase = s.initPhase := rfl
@[simp] theorem rotated_initPtr (s : State) (r : BitVec 2) : (s.rotated r).initPtr = s.initPtr := rfl
@[simp] theorem rotated_buf (s : State) (r : BitVec 2) : (s.rotated r).buf = s.buf := rfl
@[simp] theorem rotated_faultIdleStream (s : State) (r : BitVec 2) :
    (s.rotated r).faultIdleStream = s.faultIdleStream := rfl
@[simp] theorem rotated_trace (s : State) (r : BitVec 2) : (s.rotated r).trace = s.trace := rfl
@[simp] theorem rotated_results (s : State) (r : BitVec 2) : (s.rotated r).results = s.results := rfl
@[simp] theorem rotated_hostIn (s : State) (r : BitVec 2) : (s.rotated r).hostIn = s.hostIn := rfl
@[simp] theorem rotated_frameIn (s : State) (r : BitVec 2) : (s.rotated r).frameIn = s.frameIn := rfl
@[simp] theorem rotated_stallAt (s : State) (r : BitVec 2) : (s.rotated r).stallAt = s.stallAt := rfl
@[simp] theorem rotated_freeCount (s : State) (r : BitVec 2) : (s.rotated r).freeCount = s.freeCount := rfl

/-! `State.withSpeed` -/

@[simp] theorem withSpeed_cfg (s : State) (v : U32) : (s.withSpeed v).cfg = s.cfg := rfl
@[simp] theorem withSpeed_width (s : State) (v : U32) : (s.withSpeed v).width = s.width := rfl
@[simp] theorem withSpeed_height (s : State) (v : U32) : (s.withSpeed v).height = s.height := rfl
@[simp] theorem withSpeed_rotation (s : State) (v : U32) : (s.withSpeed v).rotation = s.rotation := rfl
@[simp] theorem withSpeed_inTx (s : State) (v : U32) : (s.withSpeed v).inTx = s.inTx := rfl
@[simp] theorem withSpeed_spiFrequency (s : State) (v : U32) :
    (s.withSpeed v).spiFrequency = if 0 < v then v else s.spiFrequency := rfl
@[simp] theorem withSpeed_cachedX0 (s : State) (v : U32) : (s.withSpeed v).cachedX0 = s.cachedX0 := rfl
@[simp] theorem withSpeed_cachedX1 (s : State) (v : U32) : (s.withSpeed v).cachedX1 = s.cachedX1 := rfl
@[simp] theorem withSpeed_cachedY0 (s : State) (v : U32) : (s.withSpeed v).cachedY0 = s.cachedY0 := rfl
@[simp] theorem withSpeed_cachedY1 (s : State) (v : U32) : (s.withSpeed v).cachedY1 = s.cachedY1 := rfl
@[simp] theorem withSpeed_colStart (s : State) (v : U32) : (s.withSpeed v).colStart = s.colStart := rfl
@[simp] theorem withSpeed_rowStart (s : State) (v : U32) : (s.withSpeed v).rowStart = s.rowStart := rfl
@[simp] theorem withSpeed_madctl (s : State) (v : U32) : (s.withSpeed v).madctl = s.madctl := rfl
@[simp] theorem withSpeed_backlightLevel (s : State) (v : U32) :
    (s.withSpeed v).backlightLevel = s.backlightLevel := rfl
@[simp] theorem withSpeed_initPhase (s : State) (v : U32) : (s.withSpeed v).initPhase = s.initPhase := rfl
@[simp] theorem withSpeed_initPtr (s : State) (v : U32) : (s.withSpeed v).initPtr = s.initPtr := rfl
@[simp] theorem withSpeed_buf (s : State) (v : U32) : (s.withSpeed v).buf = s.buf := rfl
@[simp] theorem withSpeed_faultIdleStream (s : State) (v : U32) :
    (s.withSpeed v).faultIdleStream = s.faultIdleStream := rfl
@[simp] theorem withSpeed_trace (s : State) (v : U32) : (s.withSpeed v).trace = s.trace := rfl
@[simp] theorem withSpeed_results (s : State) (v : U32) : (s.withSpeed v).results = s.results := rfl
@[simp] theorem withSpeed_hostIn (s : State) (v : U32) : (s.withSpeed v).hostIn = s.hostIn := rfl
@[simp] theorem withSpeed_frameIn (s : State) (v : U32) : (s.withSpeed v).frameIn = s.frameIn := rfl
@[simp] theorem withSpeed_stallAt (s : State) (v : U32) : (s.withSpeed v).stallAt = s.stallAt := rfl
@[simp] theorem withSpeed_freeCount (s : State) (v : U32) : (s.withSpeed v).freeCount = s.freeCount := rfl

/-! `State.afterBacklight` -/

@[simp] theorem afterBacklight_cfg (s : State) (l : Byte) (on : Bool) :
    (s.afterBacklight l on).cfg = s.cfg := by unfold State.afterBacklight; split <;> rfl
@[simp] theorem afterBacklight_width (s : State) (l : Byte) (on : Bool) :
    (s.afterBacklight l on).width = s.width := by unfold State.afterBacklight; split <;> rfl
@[simp] theorem afterBacklight_height (s : State) (l : Byte) (on : Bool) :
    (s.afterBacklight l on).height = s.height := by unfold State.afterBacklight; split <;> rfl
@[simp] theorem afterBacklight_rotation (s : State) (l : Byte) (on : Bool) :
    (s.afterBacklight l on).rotation = s.rotation := by unfold State.afterBacklight; split <;> rfl
@[simp] theorem afterBacklight_inTx (s : State) (l : Byte) (on : Bool) :
    (s.afterBacklight l on).inTx = s.inTx := by unfold State.afterBacklight; split <;> rfl
@[simp] theorem afterBacklight_spiFrequency (s : State) (l : Byte) (on : Bool) :
    (s.afterBacklight l on).spiFrequency = s.spiFrequency := by unfold State.afterBacklight; split <;> rfl
@[simp] theorem afterBacklight_cachedX0 (s : State) (l : Byte) (on : Bool) :
    (s.afterBacklight l on).cachedX0 = s.cachedX0 := by unfold State.afterBacklight; split <;> rfl
@[simp] theorem afterBacklight_cachedX1 (s : State) (l : Byte) (on : Bool) :
    (s.afterBacklight l on).cachedX1 = s.cachedX1 := by unfold State.afterBacklight; split <;> rfl
@[simp] theorem afterBacklight_cachedY0 (s : State) (l : Byte) (on : Bool) :
    (s.afterBacklight l on).cachedY0 = s.cachedY0 := by unfold State.afterBacklight; split <;> rfl
@[simp] theorem afterBacklight_cachedY1 (s : State) (l : Byte) (on : Bool) :
    (s.afterBacklight l on).cachedY1 = s.cachedY1 := by unfold State.afterBacklight; split <;> rfl
@[simp] theorem afterBacklight_colStart (s : State) (l : Byte) (on : Bool) :
    (s.afterBacklight l on).colStart = s.colStart := by unfold State.afterBacklight; split <;> rfl
@[simp] theorem afterBacklight_rowStart (s : State) (l : Byte) (on : Bool) :
    (s.afterBacklight l on).rowStart = s.rowStart := by unfold State.afterBacklight; split <;> rfl
@[simp] theorem afterBacklight_madctl (s : State) (l : Byte) (on : Bool) :
    (s.afterBacklight l on).madctl = s.madctl := by unfold State.afterBacklight; split <;> rfl
@[simp] theorem afterBacklight_backlightLevel (s : State) (l : Byte) (on : Bool) :
    (s.afterBacklight l on).backlightLevel =
      if s.cfg.pinBl = none then s.backlightLevel else l := by
  unfold State.afterBacklight; split <;> simp_all
@[simp] theorem afterBacklight_initPhase (s : State) (l : Byte) (on : Bool) :
    (s.afterBacklight l on).initPhase = s.initPhase := by unfold State.afterBacklight; split <;> rfl
@[simp] theorem afterBacklight_initPtr (s : State) (l : Byte) (on : Bool) :
    (s.afterBacklight l on).initPtr = s.initPtr := by unfold State.afterBacklight; split <;> rfl
@[simp] theorem afterBacklight_buf (s : State) (l : Byte) (on : Bool) :
    (s.afterBacklight l on).buf = s.buf := by unfold State.afterBacklight; split <;> rfl
@[simp] theorem afterBacklight_faultIdleStream (s : State) (l : Byte) (on : Bool) :
    (s.afterBacklight l on).faultIdleStream = s.faultIdleStream := by unfold State.afterBacklight; split <;> rfl
@[simp] theorem afterBacklight_trace (s : State) (l : Byte) (on : Bool) :
    (s.afterBacklight l on).trace =
      s.trace ++ (match s.cfg.pinBl with | some p => [.pinSet p (if on then .high else .low)] | none => []) := by
  unfold State.afterBacklight; split <;> simp_all
@[simp] theorem afterBacklight_results (s : State) (l : Byte) (on : Bool) :
    (s.afterBacklight l on).results = s.results := by unfold State.afterBacklight; split <;> rfl
@[simp] theorem afterBacklight_hostIn (s : State) (l : Byte) (on : Bool) :
    (s.afterBacklight l on).hostIn = s.hostIn := by unfold State.afterBacklight; split <;> rfl
@[simp] theorem afterBacklight_frameIn (s : State) (l : Byte) (on : Bool) :
    (s.afterBacklight l on).frameIn = s.frameIn := by unfold State.afterBacklight; split <;> rfl
@[simp] theorem afterBacklight_stallAt (s : State) (l : Byte) (on : Bool) :
    (s.afterBacklight l on).stallAt = s.stallAt := by unfold State.afterBacklight; split <;> rfl
@[simp] theorem afterBacklight_freeCount (s : State) (l : Byte) (on : Bool) :
    (s.afterBacklight l on).freeCount = s.freeCount := by unfold State.afterBacklight; split <;> rfl

/-! `State.afterBegin` -/

@[simp] theorem afterBegin_cfg (s : State) (v : U32) : (s.afterBegin v).cfg = s.cfg := rfl
@[simp] theorem afterBegin_width (s : State) (v : U32) : (s.afterBegin v).width = rotatedWidth s.cfg s.rotation := rfl
@[simp] theorem afterBegin_height (s : State) (v : U32) :
    (s.afterBegin v).height = rotatedHeight s.cfg s.rotation := rfl
@[simp] theorem afterBegin_rotation (s : State) (v : U32) : (s.afterBegin v).rotation = s.rotation := rfl
@[simp] theorem afterBegin_inTx (s : State) (v : U32) : (s.afterBegin v).inTx = false := rfl
@[simp] theorem afterBegin_spiFrequency (s : State) (v : U32) :
    (s.afterBegin v).spiFrequency = if 0 < v then v else s.spiFrequency := rfl
@[simp] theorem afterBegin_cachedX0 (s : State) (v : U32) : (s.afterBegin v).cachedX0 = 0xFFFF := rfl
@[simp] theorem afterBegin_cachedX1 (s : State) (v : U32) : (s.afterBegin v).cachedX1 = 0xFFFF := rfl
@[simp] theorem afterBegin_cachedY0 (s : State) (v : U32) : (s.afterBegin v).cachedY0 = 0xFFFF := rfl
@[simp] theorem afterBegin_cachedY1 (s : State) (v : U32) : (s.afterBegin v).cachedY1 = 0xFFFF := rfl
@[simp] theorem afterBegin_colStart (s : State) (v : U32) : (s.afterBegin v).colStart = 0 := rfl
@[simp] theorem afterBegin_rowStart (s : State) (v : U32) : (s.afterBegin v).rowStart = 0 := rfl
@[simp] theorem afterBegin_madctl (s : State) (v : U32) : (s.afterBegin v).madctl = madctlEntry s.cfg s.rotation := rfl
@[simp] theorem afterBegin_backlightLevel (s : State) (v : U32) :
    (s.afterBegin v).backlightLevel = if s.cfg.pinBl = none then s.backlightLevel else 255 := rfl
@[simp] theorem afterBegin_initPhase (s : State) (v : U32) : (s.afterBegin v).initPhase = .ready := rfl
@[simp] theorem afterBegin_initPtr (s : State) (v : U32) : (s.afterBegin v).initPtr = (replayed s.cfg).length := rfl
@[simp] theorem afterBegin_buf (s : State) (v : U32) : (s.afterBegin v).buf = s.buf := rfl
@[simp] theorem afterBegin_faultIdleStream (s : State) (v : U32) :
    (s.afterBegin v).faultIdleStream = s.faultIdleStream := rfl
@[simp] theorem afterBegin_trace (s : State) (v : U32) :
    (s.afterBegin v).trace = s.trace ++ beginEvents (s.withSpeed v) := rfl
@[simp] theorem afterBegin_results (s : State) (v : U32) : (s.afterBegin v).results = s.results ++ [.bool true] := rfl
@[simp] theorem afterBegin_hostIn (s : State) (v : U32) : (s.afterBegin v).hostIn = s.hostIn := rfl
@[simp] theorem afterBegin_frameIn (s : State) (v : U32) : (s.afterBegin v).frameIn = s.frameIn := rfl
@[simp] theorem afterBegin_stallAt (s : State) (v : U32) : (s.afterBegin v).stallAt = s.stallAt := rfl
@[simp] theorem afterBegin_freeCount (s : State) (v : U32) : (s.afterBegin v).freeCount = s.freeCount := rfl

end Sys2Proof.Machine
end

