-- ==== Sys2Proof/Laws/Encoding.lean ====
section
/-! SUPPORT. The readers of Sys2Proof/Decode.lean undo the byte forms of Machine/Operands.lean, and take nothing else. -/

namespace Sys2Proof

open Sys2Proof.Machine

@[simp] theorem readThen_ok {α β : Type} (a : α) (r : List Byte) (f : α → List Byte → Read β) :
    readThen (.ok (a, r)) f = f a r := rfl

@[simp] theorem readThen_error {α β : Type} (e : DecodeError) (f : α → List Byte → Read β) :
    readThen (.error e) f = .error e := rfl

/-- Reading on succeeded only through a value read first. -/
theorem readThen_eq_ok {α β : Type} {x : Read α} {f : α → List Byte → Read β} {y : β × List Byte}
    (h : readThen x f = .ok y) : ∃ a r, x = .ok (a, r) ∧ f a r = .ok y := by
  match x, h with
  | .ok (a, r), h => exact ⟨a, r, rfl, h⟩

@[simp] theorem be16_hi8_lo8 (v : U16) : be16 (hi8 v) (lo8 v) = v := by
  apply BitVec.eq_of_getLsbD_eq; intro i hi
  simp only [be16, hi8, lo8, BitVec.getLsbD_append, BitVec.getLsbD_extractLsb']
  by_cases h : i < 8
  · simp [h]
  · have h1 : i - 8 < 8 := by omega
    have h2 : 8 + (i - 8) = i := by omega
    simp [h, h1, h2]

theorem be16_split (b0 b1 : Byte) : hi8 (be16 b0 b1) = b0 ∧ lo8 (be16 b0 b1) = b1 := by
  constructor <;> apply BitVec.eq_of_getLsbD_eq <;> intro i hi <;>
    simp only [be16, hi8, lo8, BitVec.getLsbD_append, BitVec.getLsbD_extractLsb']
  · simp [hi]
  · simp [hi]

theorem be32_split (v : U32) : be32 (hi8 (hi16 v)) (lo8 (hi16 v)) (hi8 (lo16 v)) (lo8 (lo16 v)) = v := by
  unfold be32
  rw [be16_hi8_lo8, be16_hi8_lo8]
  apply BitVec.eq_of_getLsbD_eq; intro i hi
  simp only [hi16, lo16, BitVec.getLsbD_append, BitVec.getLsbD_extractLsb']
  by_cases h : i < 16
  · simp [h]
  · have h1 : i - 16 < 16 := by omega
    have h2 : 16 + (i - 16) = i := by omega
    simp [h, h1, h2]

theorem be32_parts (a b c d : Byte) : hi16 (be32 a b c d) = be16 a b ∧ lo16 (be32 a b c d) = be16 c d := by
  constructor <;> apply BitVec.eq_of_getLsbD_eq <;> intro i hi <;>
    simp only [be32, hi16, lo16, BitVec.getLsbD_append, BitVec.getLsbD_extractLsb']
  · simp [hi]
  · simp [hi]

@[simp] theorem readU16_bytes (v : U16) (r : List Byte) : readU16 (bytesU16 v ++ r) = .ok (v, r) := by
  simp [readU16, bytesU16]

@[simp] theorem readU32_bytes (v : U32) (r : List Byte) : readU32 (bytesU32 v ++ r) = .ok (v, r) := by
  simp [readU32, bytesU32, bytesU16, be32_split]

@[simp] theorem readBool_byte (b : Bool) (r : List Byte) : readBool (byteBool b :: r) = .ok (b, r) := by
  cases b <;> rfl

@[simp] theorem readBytes_append (a r : List Byte) : readBytes a.length (a ++ r) = .ok (a, r) := by
  simp [readBytes]

theorem u16sOfBytes_flatMap (cs : List U16) : u16sOfBytes (cs.flatMap bytesU16) = cs := by
  induction cs with
  | nil => rfl
  | cons c cs ih => simpa [bytesU16, u16sOfBytes] using ih

theorem length_flatMap_bytesU16 (cs : List U16) : (cs.flatMap bytesU16).length = 2 * cs.length := by
  induction cs with
  | nil => rfl
  | cons c cs ih => simp only [List.flatMap_cons, List.length_append, ih, List.length_cons, bytesU16,
      List.length_nil]; omega

@[simp] theorem readU16s_bytes (cs : List U16) (r : List Byte) :
    readU16s cs.length (cs.flatMap bytesU16 ++ r) = .ok (cs, r) := by
  unfold readU16s
  rw [← length_flatMap_bytesU16, readBytes_append, readThen_ok, u16sOfBytes_flatMap]

theorem readU8_eq_ok {bs r : List Byte} {v : Byte} (h : readU8 bs = .ok (v, r)) : bs = v :: r := by
  match bs, h with
  | _ :: _, h => cases h; rfl

theorem readU16_eq_ok {bs r : List Byte} {v : U16} (h : readU16 bs = .ok (v, r)) : bs = bytesU16 v ++ r := by
  match bs, h with
  | b0 :: b1 :: _, h => cases h; simp [bytesU16, be16_split]

theorem readU32_eq_ok {bs r : List Byte} {v : U32} (h : readU32 bs = .ok (v, r)) : bs = bytesU32 v ++ r := by
  match bs, h with
  | b0 :: b1 :: b2 :: b3 :: _, h => cases h; simp [bytesU32, bytesU16, be32_parts, be16_split]

theorem readBool_eq_ok {bs r : List Byte} {v : Bool} (h : readBool bs = .ok (v, r)) : bs = byteBool v :: r := by
  cases bs with
  | nil => cases h
  | cons b t =>
    simp only [readBool] at h
    by_cases h0 : b = 0x00
    · rw [if_pos h0] at h; cases h; rw [h0]; rfl
    · rw [if_neg h0] at h
      by_cases h1 : b = 0x01
      · rw [if_pos h1] at h; cases h; rw [h1]; rfl
      · rw [if_neg h1] at h; cases h

theorem readBytes_eq_ok {n : Nat} {bs a r : List Byte} (h : readBytes n bs = .ok (a, r)) :
    bs = a ++ r ∧ a.length = n := by
  unfold readBytes at h
  split at h
  · cases h
  · cases h; exact ⟨(List.take_append_drop n bs).symm, by simp; omega⟩

theorem flatMap_u16sOfBytes : ∀ (n : Nat) (bs : List Byte), bs.length = 2 * n →
    (u16sOfBytes bs).flatMap bytesU16 = bs ∧ (u16sOfBytes bs).length = n := by
  intro n
  induction n with
  | zero => intro bs h; obtain rfl : bs = [] := List.length_eq_zero_iff.1 h; exact ⟨rfl, rfl⟩
  | succ n ih =>
    intro bs h
    match bs, h with
    | b0 :: b1 :: r, h =>
      obtain ⟨h1, h2⟩ := ih r (by simp at h; omega)
      simp [u16sOfBytes, bytesU16, be16_split, h1, h2]

theorem readU16s_eq_ok {n : Nat} {bs r : List Byte} {cs : List U16} (h : readU16s n bs = .ok (cs, r)) :
    bs = cs.flatMap bytesU16 ++ r ∧ cs.length = n := by
  obtain ⟨a, r', h1, h2⟩ := readThen_eq_ok h
  cases h2
  obtain ⟨rfl, hl⟩ := readBytes_eq_ok h1
  obtain ⟨h3, h4⟩ := flatMap_u16sOfBytes n a hl
  exact ⟨by rw [h3], h4⟩

@[simp] theorem readU16x3_bytes (a b c : U16) (r : List Byte) :
    readU16x3 (bytesU16 a ++ (bytesU16 b ++ (bytesU16 c ++ r))) = .ok ((a, b, c), r) := by
  simp [readU16x3]

@[simp] theorem readU16x4_bytes (a b c d : U16) (r : List Byte) :
    readU16x4 (bytesU16 a ++ (bytesU16 b ++ (bytesU16 c ++ (bytesU16 d ++ r)))) = .ok ((a, b, c, d), r) := by
  simp [readU16x4]

theorem readU16x3_eq_ok {bs r : List Byte} {a b c : U16} (h : readU16x3 bs = .ok ((a, b, c), r)) :
    bs = bytesU16 a ++ bytesU16 b ++ bytesU16 c ++ r := by
  obtain ⟨a', r1, h1, h⟩ := readThen_eq_ok h
  obtain ⟨b', r2, h2, h⟩ := readThen_eq_ok h
  obtain ⟨c', r3, h3, h⟩ := readThen_eq_ok h
  cases h
  simp [readU16_eq_ok h1, readU16_eq_ok h2, readU16_eq_ok h3]

theorem readU16x4_eq_ok {bs r : List Byte} {a b c d : U16} (h : readU16x4 bs = .ok ((a, b, c, d), r)) :
    bs = bytesU16 a ++ bytesU16 b ++ bytesU16 c ++ bytesU16 d ++ r := by
  obtain ⟨a', r1, h1, h⟩ := readThen_eq_ok h
  obtain ⟨⟨b', c', d'⟩, r2, h2, h⟩ := readThen_eq_ok h
  cases h
  simp [readU16_eq_ok h1, readU16x3_eq_ok h2]

end Sys2Proof
end

