-- ==== Sys2Proof/Laws/Exec.lean ====
section
/-! SUPPORT. What any instruction can do, said once: `exec` ends an operation whose state is `effect`. -/

namespace Sys2Proof.Machine

theorem bracketed_eq (op f : State → State) (h : ∀ s, op s = f s) (s : State) :
    bracketed op s = s.bracketedBy f := by
  simp only [bracketed, startWrite_eq, endWrite_eq, h, State.bracketedBy]

theorem afterOpen_canvas (s : State) : s.afterOpen.width = s.width ∧ s.afterOpen.height = s.height := by
  unfold State.afterOpen; split <;> simp

theorem afterWindow_canvas (s : State) (x y w h : Int) :
    (s.afterWindow x y w h).width = s.width ∧ (s.afterWindow x y w h).height = s.height := ⟨rfl, rfl⟩

/-- What `clip` can answer (R250): on true, a rectangle inside the canvas. -/
theorem clip_some {W H : U16} {x y w h x' y' w' h' : Int} (hc : clip W H x y w h = some (x', y', w', h')) :
    0 < w ∧ 0 < h ∧ x' = max x 0 ∧ y' = max y 0 ∧ w' = min (x + w) W.toNat - max x 0 ∧
      h' = min (y + h) H.toNat - max y 0 ∧ 0 < w' ∧ 0 < h' := by
  unfold clip at hc
  split at hc
  · cases hc
  · dsimp only at hc
    split at hc
    · cases hc
    · cases hc; omega

theorem writeFillRect_eq (x y w h : Int) (color : U16) (s : State) :
    writeFillRect x y w h color s =
      if w ≤ 0 ∨ h ≤ 0 then s else (s.afterWindow x y w h).afterFill color (w * h).toNat := by
  simp only [writeFillRect, setAddrWindow_eq, writeColorRepeated_eq]

theorem writeFastHLine_eq (x y w : Int) (color : U16) (s : State) :
    writeFastHLine x y w color s = if w ≤ 0 then s else (s.afterWindow x y w 1).afterFill color w.toNat := by
  simp only [writeFastHLine, setAddrWindow_eq, writeColorRepeated_eq]

theorem writeFastVLine_eq (x y h : Int) (color : U16) (s : State) :
    writeFastVLine x y h color s = if h ≤ 0 then s else (s.afterWindow x y 1 h).afterFill color h.toNat := by
  simp only [writeFastVLine, setAddrWindow_eq, writeColorRepeated_eq]

theorem fillRect_eq (x y w h : Int) (color : U16) (s : State) :
    fillRect x y w h color s = s.afterFillRect x y w h color := by
  unfold fillRect State.afterFillRect
  cases hc : clip s.width s.height x y w h with
  | none => rfl
  | some r =>
    obtain ⟨x', y', w', h'⟩ := r
    obtain ⟨-, -, -, -, -, -, h1, h2⟩ := clip_some hc
    refine bracketed_eq _ _ (fun s => ?_) s
    rw [writeFillRect_eq, if_neg (by omega)]

theorem drawFastHLine_eq (x y w : Int) (color : U16) (s : State) :
    drawFastHLine x y w color s = s.afterFillRect x y w 1 color := by
  unfold drawFastHLine State.afterFillRect
  cases hc : clip s.width s.height x y w 1 with
  | none => rfl
  | some r =>
    obtain ⟨x', y', w', h'⟩ := r
    obtain ⟨-, -, -, -, e1, e2, h1, h2⟩ := clip_some hc
    refine bracketed_eq _ _ (fun s => ?_) s
    have hv : h' = 1 := by omega
    subst hv
    rw [writeFastHLine_eq, if_neg (by omega), Int.mul_one]

theorem drawFastVLine_eq (x y h : Int) (color : U16) (s : State) :
    drawFastVLine x y h color s = s.afterFillRect x y 1 h color := by
  unfold drawFastVLine State.afterFillRect
  cases hc : clip s.width s.height x y 1 h with
  | none => rfl
  | some r =>
    obtain ⟨x', y', w', h'⟩ := r
    obtain ⟨-, -, -, -, e1, e2, h1, h2⟩ := clip_some hc
    refine bracketed_eq _ _ (fun s => ?_) s
    have hv : w' = 1 := by omega
    subst hv
    rw [writeFastVLine_eq, if_neg (by omega), Int.one_mul]

theorem drawPixel_eq (x y : Int) (color : U16) (s : State) :
    drawPixel x y color s =
      if outOfCanvas x y s then s else s.bracketedBy fun s => (s.afterWindow x y 1 1).afterPixel color := by
  unfold drawPixel
  split
  · rfl
  · next h =>
    have hc : outOfCanvas x y s.afterOpen = false := by
      simpa [outOfCanvas, (afterOpen_canvas s).1, (afterOpen_canvas s).2] using h
    simp only [bracketed, startWrite_eq, endWrite_eq, State.bracketedBy, writePixel_eq, hc, Bool.false_eq_true, if_false]

theorem setBacklight_eq (on : Bool) (s : State) :
    setBacklight on s = s.afterBacklight (if on then 255 else 0) on := by
  unfold setBacklight State.afterBacklight
  cases s.cfg.pinBl <;> rfl

theorem setBacklightLevel_eq (level : Byte) (s : State) :
    setBacklightLevel level s = s.afterBacklight level (level != 0) := by
  unfold setBacklightLevel State.afterBacklight
  cases s.cfg.pinBl
  · rfl
  · by_cases h : level = 0#8 <;> simp [h, emit_eq_log, storeBacklight]

theorem clipRect_eq (x y w h : Int) (s : State) : clipRect x y w h s = s.afterClip x y w h := by
  unfold clipRect State.afterClip
  cases clip s.width s.height x y w h <;> rfl

/-- Every instruction: the end of an operation whose state is `effect`. -/
theorem exec_eq (i : Instr) (s : State) : exec i s = finish s (effect i s) := by
  cases i with
  | begin speed => exact congrArg (finish s) (bringUp_eq speed s)
  | startWrite => exact congrArg (finish s) (startWrite_eq s)
  | endWrite => exact congrArg (finish s) (endWrite_eq s)
  | sendCommand cmd d data => exact congrArg (finish s) (sendCommand_eq cmd data d s)
  | setAddrWindow x y w h => exact congrArg (finish s) (setAddrWindow_eq _ _ _ _ s)
  | writeColorRepeated color count => exact congrArg (finish s) (writeColorRepeated_eq _ _ s)
  | writePixel x y color => exact congrArg (finish s) (writePixel_eq _ _ _ s)
  | writePixels colors => exact congrArg (finish s) (writePixels_eq _ s)
  | writeFastHLine x y w color => exact congrArg (finish s) (writeFastHLine_eq _ _ _ _ s)
  | writeFastVLine x y h color => exact congrArg (finish s) (writeFastVLine_eq _ _ _ _ s)
  | writeFillRect x y w h color => exact congrArg (finish s) (writeFillRect_eq _ _ _ _ _ s)
  | setRotation r => exact congrArg (finish s) (applyRotation_eq _ s)
  | invertDisplay b => exact congrArg (finish s) (sendCommand_eq _ _ _ s)
  | setBacklight b => exact congrArg (finish s) (setBacklight_eq b s)
  | setBacklightLevel l => exact congrArg (finish s) (setBacklightLevel_eq l s)
  | getWidth | getHeight | getRotation => rfl
  | drawPixel x y color => exact congrArg (finish s) (drawPixel_eq _ _ _ s)
  | drawFastHLine x y w color => exact congrArg (finish s) (drawFastHLine_eq _ _ _ _ s)
  | drawFastVLine x y h color => exact congrArg (finish s) (drawFastVLine_eq _ _ _ _ s)
  | fillRect x y w h color => exact congrArg (finish s) (fillRect_eq _ _ _ _ _ s)
  | fillScreen color => exact congrArg (finish s) (fillRect_eq _ _ _ _ _ s)
  | clipRect x y w h => exact congrArg (finish s) (clipRect_eq _ _ _ _ s)
  | caset | raset | ramwr | madctl | invon | invoff | swreset => exact congrArg (finish s) (sendCommand_eq _ _ _ s)

/-- With an environment that completes every event, an instruction completes with `effect`. -/
theorem exec_completes {s : State} (h : s.stallAt = none) (i : Instr) : exec i s = .next (effect i s) := by
  rw [exec_eq, finish_of_completes h]

/-- An instruction that answers a next state answers `effect`. -/
theorem exec_next {i : Instr} {s t : State} (h : exec i s = .next t) : t = effect i s :=
  finish_next (exec_eq i s ▸ h)

/-- No instruction is refused. -/
theorem exec_not_refused (i : Instr) (s : State) (r : Refusal) : exec i s ≠ .refused r := by
  rw [exec_eq]; exact finish_not_refused _ _ r

end Sys2Proof.Machine
end

