-- ==== Sys2Proof/Laws/Invariant.lean ====
section
/-! SUPPORT. Induction over what an instruction does: its effect is a chain of a few updates, so a property that each update
keeps every instruction keeps. -/

namespace Sys2Proof.Machine

/-- The updates of the operations other than begin keep `P`. -/
structure Kept (P : State → Prop) : Prop where
  afterOpen : ∀ s, P s → P s.afterOpen
  afterClose : ∀ s, P s → P s.afterClose
  afterCommand : ∀ s c d k, P s → P (s.afterCommand c d k)
  afterBounds : ∀ s xa xb ya yb, P s → P (s.afterBounds xa xb ya yb)
  afterFill : ∀ s c n, P s → P (s.afterFill c n)
  afterPixels : ∀ s cs, P s → P (s.afterPixels cs)
  afterPixel : ∀ s c, P s → P (s.afterPixel c)
  rotated : ∀ s r, P s → P (s.rotated r)
  afterBacklight : ∀ s l on, P s → P (s.afterBacklight l on)
  returned : ∀ (s : State) rs n, P s → P { s with results := s.results ++ rs, freeCount := n }

/-- The further updates of begin keep `P`. -/
structure KeptByBegin (P : State → Prop) : Prop where
  withSpeed : ∀ s v, P s → P (s.withSpeed v)
  configured : ∀ s, P s → P (s.log (configureEvents s.cfg))
  wasReset : ∀ s, P s → P (s.log (resetEvents s))
  setInitPtr : ∀ s p, P s → P (setInitPtr p s)
  setInitPhase : ∀ s p, P s → P (setInitPhase p s)

variable {P : State → Prop}

theorem Kept.afterFillRect (k : Kept P) (s : State) (x y w h : Int) (c : U16) (hs : P s) :
    P (s.afterFillRect x y w h c) := by
  unfold State.afterFillRect
  split
  · exact k.afterClose _ (k.afterFill _ _ _ (k.afterBounds _ _ _ _ _ (k.afterOpen _ hs)))
  · exact hs

theorem Kept.afterClip (k : Kept P) (s : State) (x y w h : Int) (hs : P s) : P (s.afterClip x y w h) := by
  unfold State.afterClip
  split
  · exact k.returned s _ s.freeCount hs
  · exact k.returned s _ _ hs

/-- Every instruction but begin keeps what the updates keep; begin is asked for apart. -/
theorem Kept.effect (k : Kept P) (hb : ∀ s v, P s → P (s.afterBegin v)) (i : Instr) (s : State) (hs : P s) :
    P (effect i s) := by
  cases i with
  | begin v => exact hb s v hs
  | startWrite => exact k.afterOpen s hs
  | endWrite => exact k.afterClose s hs
  | sendCommand | invertDisplay | caset | raset | ramwr | madctl | invon | invoff | swreset => exact k.afterCommand s _ _ _ hs
  | setAddrWindow => exact k.afterBounds s _ _ _ _ hs
  | writeColorRepeated => exact k.afterFill s _ _ hs
  | writePixel =>
    dsimp only [Machine.effect]; split
    · exact hs
    · exact k.afterPixel _ _ (k.afterBounds _ _ _ _ _ hs)
  | writePixels => exact k.afterPixels s _ hs
  | writeFastHLine | writeFastVLine | writeFillRect =>
    dsimp only [Machine.effect]; split
    · exact hs
    · exact k.afterFill _ _ _ (k.afterBounds _ _ _ _ _ hs)
  | setRotation => exact k.afterCommand _ _ _ _ (k.rotated s _ hs)
  | setBacklight | setBacklightLevel => exact k.afterBacklight s _ _ hs
  | getWidth | getHeight | getRotation => exact k.returned s _ s.freeCount hs
  | drawPixel =>
    dsimp only [Machine.effect]; split
    · exact hs
    · exact k.afterClose _ (k.afterPixel _ _ (k.afterBounds _ _ _ _ _ (k.afterOpen _ hs)))
  | drawFastHLine | drawFastVLine | fillRect | fillScreen => exact k.afterFillRect s _ _ _ _ _ hs
  | clipRect => exact k.afterClip s _ _ _ _ hs

theorem Kept.replay (k : Kept P) (kb : KeptByBegin P) : ∀ (fuel : Nat) (s : State), P s → P (replay fuel s) := by
  intro fuel
  induction fuel with
  | zero => intro s hs; exact hs
  | succ n ih =>
    intro s hs
    unfold Machine.replay
    split
    · exact hs
    · split
      · exact hs
      · refine ih _ (kb.setInitPtr _ _ ?_)
        rw [issueEntry, sendCommand_eq]
        exact k.afterCommand _ _ _ _ hs

/-- begin keeps what its updates keep. -/
theorem Kept.afterBegin (k : Kept P) (kb : KeptByBegin P) (s : State) (v : U32) (hs : P s) : P (s.afterBegin v) := by
  rw [← bringUp_eq]
  unfold bringUp replayTable
  simp only [configure_eq, hardwareReset_eq, applyRotation_eq, startWrite_eq, endWrite_eq, setBacklightLevel_eq]
  refine k.returned _ _ _ (kb.setInitPhase _ _ (k.afterBacklight _ _ _ (k.afterClose _ (k.afterCommand _ _ _ _
    (k.rotated _ _ (k.replay kb _ _ (kb.setInitPtr _ _ (k.afterOpen _ (kb.wasReset _ ?_)))))))))
  exact kb.configured (s.withSpeed v) (kb.withSpeed s v hs)

end Sys2Proof.Machine
end

