-- ==== Sys2Proof/Laws/PerInstr.lean ====
section
/-! SUPPORT. The per-instruction family EncodingLength: every instruction's bytes begin with its opcode or command byte and
are as many as its length column gives (spec/30_encoding.md R90, R92, R93, R95, R103). -/

namespace Sys2Proof.Laws.EncodingLength

open Sys2Proof Sys2Proof.Machine

/-- The record of an instruction in any configuration: its first byte and its length. -/
def Statement (i : Instr) : Prop :=
  ∀ cfg : Config, (encodeIn cfg i).head? = some (opcodeIn cfg i) ∧ (encodeIn cfg i).length = encodedLength i

theorem begin (v : U32) : Statement (.begin v) := fun _ => ⟨rfl, rfl⟩
theorem startWrite : Statement .startWrite := fun _ => ⟨rfl, rfl⟩
theorem endWrite : Statement .endWrite := fun _ => ⟨rfl, rfl⟩
theorem sendCommand (c : Byte) (d : U16) (p : List Byte) : Statement (.sendCommand c d p) := fun _ => ⟨rfl, by
  simp [encodeIn, encodedLength, operandBytes, bytesU16]; omega⟩
theorem setAddrWindow (x y w h : U16) : Statement (.setAddrWindow x y w h) := fun _ => ⟨rfl, rfl⟩
theorem writeColorRepeated (c : U16) (n : U32) : Statement (.writeColorRepeated c n) := fun _ => ⟨rfl, rfl⟩
theorem writePixel (x y c : U16) : Statement (.writePixel x y c) := fun _ => ⟨rfl, rfl⟩
theorem writePixels (cs : List U16) : Statement (.writePixels cs) := fun _ => ⟨rfl, by
  simp [encodeIn, encodedLength, operandBytes, bytesU32, bytesU16, Nat.mul_comm]; omega⟩
theorem writeFastHLine (x y w c : U16) : Statement (.writeFastHLine x y w c) := fun _ => ⟨rfl, rfl⟩
theorem writeFastVLine (x y h c : U16) : Statement (.writeFastVLine x y h c) := fun _ => ⟨rfl, rfl⟩
theorem writeFillRect (x y w h c : U16) : Statement (.writeFillRect x y w h c) := fun _ => ⟨rfl, rfl⟩
theorem setRotation (r : Byte) : Statement (.setRotation r) := fun _ => ⟨rfl, rfl⟩
theorem invertDisplay (b : Bool) : Statement (.invertDisplay b) := fun _ => ⟨rfl, rfl⟩
theorem setBacklight (b : Bool) : Statement (.setBacklight b) := fun _ => ⟨rfl, rfl⟩
theorem setBacklightLevel (l : Byte) : Statement (.setBacklightLevel l) := fun _ => ⟨rfl, rfl⟩
theorem getWidth : Statement .getWidth := fun _ => ⟨rfl, rfl⟩
theorem getHeight : Statement .getHeight := fun _ => ⟨rfl, rfl⟩
theorem getRotation : Statement .getRotation := fun _ => ⟨rfl, rfl⟩
theorem drawPixel (x y c : U16) : Statement (.drawPixel x y c) := fun _ => ⟨rfl, rfl⟩
theorem drawFastHLine (x y w c : U16) : Statement (.drawFastHLine x y w c) := fun _ => ⟨rfl, rfl⟩
theorem drawFastVLine (x y h c : U16) : Statement (.drawFastVLine x y h c) := fun _ => ⟨rfl, rfl⟩
theorem fillRect (x y w h c : U16) : Statement (.fillRect x y w h c) := fun _ => ⟨rfl, rfl⟩
theorem fillScreen (c : U16) : Statement (.fillScreen c) := fun _ => ⟨rfl, rfl⟩
theorem clipRect (x y w h : U16) : Statement (.clipRect x y w h) := fun _ => ⟨rfl, rfl⟩
theorem caset (a b : U16) : Statement (.caset a b) := fun _ => ⟨rfl, rfl⟩
theorem raset (a b : U16) : Statement (.raset a b) := fun _ => ⟨rfl, rfl⟩
theorem ramwr : Statement .ramwr := fun _ => ⟨rfl, rfl⟩
theorem madctl (m : Byte) : Statement (.madctl m) := fun _ => ⟨rfl, rfl⟩
theorem invon : Statement .invon := fun _ => ⟨rfl, rfl⟩
theorem invoff : Statement .invoff := fun _ => ⟨rfl, rfl⟩
theorem swreset : Statement .swreset := fun _ => ⟨rfl, rfl⟩

end Sys2Proof.Laws.EncodingLength
end

