-- ==== Sys2Proof/Laws/Step.lean ====
section
/-! SUPPORT. Everything a step can do, said once: it idles, or it runs one instruction on the state with that instruction's
bytes taken; and what no instruction changes. -/

namespace Sys2Proof.Machine

/-- The inversion of `step`: an idle step, or an instruction on the state with its bytes taken. -/
theorem step_next {s t : State} (h : step s = .next t) :
    t = s ∨ ∃ i hs fs, exec i { s with hostIn := hs, frameIn := fs } = .next t := by
  unfold step fetch at h
  split at h
  · cases h; exact .inl rfl
  · next i s' hf =>
    refine .inr ⟨i, ?_⟩
    split at hf
    · unfold fetchRequest at hf
      split at hf
      · cases hf; exact ⟨_, s.frameIn, h⟩
      · cases hf
      · cases hf
    · unfold fetchFrame at hf
      split at hf
      · cases hf; exact ⟨s.hostIn, _, h⟩
      · cases hf
  · cases h

/-- The same in closed form. -/
theorem step_effect {s t : State} (h : step s = .next t) :
    t = s ∨ ∃ i hs fs, t = effect i { s with hostIn := hs, frameIn := fs } := by
  obtain rfl | ⟨i, hs, fs, h⟩ := step_next h
  · exact .inl rfl
  · exact .inr ⟨i, hs, fs, exec_next h⟩

/-- An invariant that pending bytes do not enter and that every instruction's effect keeps, every step keeps. -/
theorem step_keeps {P : State → Prop} (hp : ∀ s hs fs, P s → P { s with hostIn := hs, frameIn := fs })
    (he : ∀ i s, P s → P (effect i s)) {s t : State} (h : P s) (hstep : step s = .next t) : P t := by
  obtain rfl | ⟨i, hs, fs, rfl⟩ := step_effect hstep
  · exact h
  · exact he i _ (hp s hs fs h)

end Sys2Proof.Machine
end

