-- ==== Sys2Proof/Machine/Contract.lean ====
section
/-! DEFINITION. The Graphics Contract's defaults that this driver overrides (spec/45_front_end.md R259 to R261), for a model
that takes the contract without the driver. No arm of `exec` reaches them: in this block they have no opcode. -/

namespace Sys2Proof.Machine

/-- The cells of a rectangle, row-major: y outer, x inner (R260). -/
def cells (x y : Int) (w h : Nat) : List (Int × Int) :=
  (List.range h).flatMap fun (j : Nat) => (List.range w).map fun (i : Nat) => (x + i, y + j)

/-- The default writeFillRect: writePixel on every cell (R260). -/
def defaultWriteFillRect (x y w h : Int) (color : U16) (s : State) : State :=
  (cells x y w.toNat h.toNat).foldl (fun s p => writePixel p.1 p.2 color s) s

/-- The default writeFastHLine: writeFillRect with height 1 (R259). -/
def defaultWriteFastHLine (x y w : Int) (color : U16) (s : State) : State := defaultWriteFillRect x y w 1 color s

/-- The default writeFastVLine: writeFillRect with width 1 (R259). -/
def defaultWriteFastVLine (x y h : Int) (color : U16) (s : State) : State := defaultWriteFillRect x y 1 h color s

/-- The canvas position of element `i` of a flat sequence (R261): `(i mod width, i div width)`. -/
def flatPosition (width : U16) (i : Nat) : Int × Int := (i % width.toNat, i / width.toNat)

/-- The default writePixels (R261): element `i` to its row-major position, in order. -/
def defaultWritePixels (colors : List U16) (s : State) : State :=
  colors.zipIdx.foldl (fun t p => writePixel (flatPosition s.width p.2).1 (flatPosition s.width p.2).2 p.1 t) s

end Sys2Proof.Machine
end

