-- ==== Sys2Proof/Tests/Slice0.lean ====
section
/-! SUPPORT. Tests: the smoke tests of WellFormed, every constructor's decoding by a word written out from the spec's encoding,
one step of each instruction on small states with results from spec/95_test_vectors.md, and a witness for the hypotheses of
each statement. -/

namespace Sys2Proof.Tests

open Sys2Proof Sys2Proof.Machine

/-! ## States to test on -/

/-- A panel with a reset pin and a backlight pin. The init table and the MADCTL values are illustrations (G12). -/
def cfg : Config where
  rawW := 240
  rawH := 240
  spiFreq := 40000000
  bitOrder := .msbFirst
  spiMode := 0
  pinDc := 1
  pinCs := 2
  pinRst := some 3
  pinBl := some 4
  pinSclk := none
  pinMosi := none
  initTable := ⟨[⟨0x11, 0, 120, []⟩, ⟨0x29, 0, 20, []⟩, ⟨0x00, 0, 0, []⟩], by decide⟩
  madctlTable := #v[0x48, 0x28, 0x88, 0xE8]
  cmdSwreset := 0x01
  cmdInvoff := 0x20
  cmdInvon := 0x21
  cmdCaset := 0x2A
  cmdRaset := 0x2B
  cmdRamwr := 0x2C
  cmdMadctl := 0x36
  lvlCmd := .low
  lvlData := .high

/-- The same without the optional pins: the software reset, no backlight. -/
def cfgBare : Config := { cfg with pinRst := none, pinBl := none }

/-- Construction state, the gate Idle. -/
def idle : State := State.construct cfg

/-- The gate opened by startWrite. -/
def opened : State := idle.afterOpen

/-- The events an instruction appends; `none` where it answers no next state. -/
def emitted (i : Instr) (s : State) : Option (List Event) :=
  match exec i s with
  | .next t => some (t.trace.drop s.trace.length)
  | .fault _ => none
  | .refused _ => none

/-- A field after an instruction. -/
def after {α : Type} (i : Instr) (s : State) (f : State → α) : Option α :=
  match exec i s with
  | .next t => some (f t)
  | .fault _ => none
  | .refused _ => none

/-- The cache as the vectors write it. -/
def cacheOf (s : State) : U16 × U16 × U16 × U16 := (s.cachedX0, s.cachedX1, s.cachedY0, s.cachedY1)

/-! The vectors' abbreviations (spec/95_test_vectors.md, Notation). -/

/-- `OPEN`. -/
def evOpen : List Event := [.busOpen 40000000 .msbFirst 0, .pinSet 2 .low]
/-- `CLOSE`. -/
def evClose : List Event := [.pinSet 2 .high, .busClose]
/-- `{c}`. -/
def evCmd (c : Byte) : List Event := [.pinSet 1 .low, .busWriteByte c, .pinSet 1 .high]
/-- `{c; d…}`. -/
def evFrame (c : Byte) (d : List Byte) : List Event := evCmd c ++ [.busWriteBytes d]
/-- `DATA`. -/
def evData : List Event := [.pinSet 1 .high]

/-! ## WellFormed: an ill-formed term for each check (R95) -/

theorem test_wellFormed_sendCommand : (Instr.sendCommand 0x2A 0 (List.replicate 255 0)).wellFormed = true := by
  decide +kernel
theorem test_illFormed_sendCommand : (Instr.sendCommand 0x2A 0 (List.replicate 256 0)).wellFormed = false := by
  decide +kernel
theorem test_wellFormed_writePixels : (Instr.writePixels [0x1234]).wellFormed = true := by decide
theorem illFormed_of_length {cs : List U16} {n : Nat} (h : cs.length = n) (hn : 2 ^ 32 ≤ n) :
    (Instr.writePixels cs).wellFormed = false := by
  simp only [Instr.wellFormed, h, decide_eq_false_iff_not]; omega
theorem test_illFormed_writePixels : (Instr.writePixels (List.replicate (2 ^ 32) 0)).wellFormed = false :=
  illFormed_of_length (n := 2 ^ 32) List.length_replicate (Nat.le_refl _)

/-! ## Decoding: request words of L2.8 and of the encoding tables R92, R93, frames of R103 -/

theorem test_decode_begin : decodeRequest [0x01, 0x01, 0x9B, 0xFC, 0xC0] = .ok (.begin 27000000, []) := rfl
theorem test_decode_startWrite : decodeRequest [0x02] = .ok (.startWrite, []) := rfl
theorem test_decode_endWrite : decodeRequest [0x03] = .ok (.endWrite, []) := rfl
theorem test_decode_sendCommand :
    decodeRequest [0x04, 0x11, 0x00, 0x78, 0x00] = .ok (.sendCommand 0x11 120 [], []) := rfl
theorem test_decode_setAddrWindow :
    decodeRequest [0x05, 0xFF, 0xFF, 0x00, 0x00, 0x00, 0x01, 0x00, 0x01] = .ok (.setAddrWindow 0xFFFF 0 1 1, []) := rfl
theorem test_decode_writeColorRepeated :
    decodeRequest [0x06, 0xF8, 0x00, 0x00, 0x00, 0x00, 0x41] = .ok (.writeColorRepeated 0xF800 65, []) := rfl
theorem test_decode_writePixel :
    decodeRequest [0x07, 0x00, 0x05, 0x00, 0x06, 0xAB, 0xCD] = .ok (.writePixel 5 6 0xABCD, []) := rfl
theorem test_decode_writePixels :
    decodeRequest [0x08, 0x00, 0x00, 0x00, 0x02, 0x12, 0x34, 0xAB, 0xCD, 0x99] =
      .ok (.writePixels [0x1234, 0xABCD], [0x99]) := rfl
theorem test_decode_writeFastHLine :
    decodeRequest [0x09, 0x00, 0x00, 0x00, 0x0A, 0x00, 0x03, 0x00, 0x1F] = .ok (.writeFastHLine 0 10 3 0x001F, []) := rfl
theorem test_decode_writeFastVLine :
    decodeRequest [0x0A, 0x00, 0x03, 0x00, 0x01, 0x00, 0x0A, 0x00, 0x02] = .ok (.writeFastVLine 3 1 10 2, []) := rfl
theorem test_decode_writeFillRect :
    decodeRequest [0x0B, 0x00, 0x0A, 0x00, 0x14, 0x00, 0x03, 0x00, 0x02, 0xF8, 0x00] =
      .ok (.writeFillRect 10 20 3 2 0xF800, []) := rfl
theorem test_decode_setRotation : decodeRequest [0x0C, 0xFF] = .ok (.setRotation 255, []) := rfl
theorem test_decode_invertDisplay : decodeRequest [0x0D, 0x01] = .ok (.invertDisplay true, []) := rfl
theorem test_decode_setBacklight : decodeRequest [0x0E, 0x00] = .ok (.setBacklight false, []) := rfl
theorem test_decode_setBacklightLevel : decodeRequest [0x0F, 0x07] = .ok (.setBacklightLevel 7, []) := rfl
theorem test_decode_getWidth : decodeRequest [0x10] = .ok (.getWidth, []) := rfl
theorem test_decode_getHeight : decodeRequest [0x11] = .ok (.getHeight, []) := rfl
theorem test_decode_getRotation : decodeRequest [0x12] = .ok (.getRotation, []) := rfl
theorem test_decode_drawPixel :
    decodeRequest [0x20, 0x00, 0x06, 0x00, 0x05, 0x12, 0x34] = .ok (.drawPixel 6 5 0x1234, []) := rfl
theorem test_decode_drawFastHLine :
    decodeRequest [0x21, 0xFF, 0xF6, 0x00, 0x00, 0x00, 0x14, 0x07, 0xE0] = .ok (.drawFastHLine 0xFFF6 0 20 0x07E0, []) := rfl
theorem test_decode_drawFastVLine :
    decodeRequest [0x22, 0x00, 0x01, 0x00, 0xEB, 0x00, 0x0A, 0x07, 0xE0] = .ok (.drawFastVLine 1 235 10 0x07E0, []) := rfl
theorem test_decode_fillRect :
    decodeRequest [0x23, 0x00, 0x0A, 0x00, 0x14, 0x00, 0x03, 0x00, 0x02, 0xF8, 0x00] =
      .ok (.fillRect 10 20 3 2 0xF800, []) := rfl
theorem test_decode_fillScreen : decodeRequest [0x24, 0x07, 0xE0] = .ok (.fillScreen 0x07E0, []) := rfl
theorem test_decode_clipRect :
    decodeRequest [0x25, 0xFF, 0xFB, 0x00, 0xE6, 0x00, 0x14, 0x00, 0x15] = .ok (.clipRect 0xFFFB 230 20 21, []) := rfl
theorem test_decode_caset : decodeFrame cfg [0x2A, 0x00, 0x0A, 0x00, 0x0C] = .ok (.caset 10 12, []) := rfl
theorem test_decode_raset : decodeFrame cfg [0x2B, 0x00, 0x14, 0x01, 0x15] = .ok (.raset 20 277, []) := rfl
theorem test_decode_ramwr : decodeFrame cfg [0x2C] = .ok (.ramwr, []) := rfl
theorem test_decode_madctl : decodeFrame cfg [0x36, 0x48] = .ok (.madctl 0x48, []) := rfl
theorem test_decode_invon : decodeFrame cfg [0x21] = .ok (.invon, []) := rfl
theorem test_decode_invoff : decodeFrame cfg [0x20] = .ok (.invoff, []) := rfl
theorem test_decode_swreset : decodeFrame cfg [0x01] = .ok (.swreset, []) := rfl

/-- R7: another CMD_CASET. Its frame decodes and is sent under that byte, and the default byte is refused. -/
def cfgOther : Config := { cfg with cmdCaset := 0x55 }
theorem test_decode_otherCommand :
    decodeFrame cfgOther [0x55, 0x00, 0x0A, 0x00, 0x0C] = .ok (.caset 10 12, []) ∧
    decodeFrame cfgOther [0x2A, 0x00, 0x0A, 0x00, 0x0C] = .error (.unknownFrame 0x2A) ∧
    ((State.construct cfgOther).withFetchWord 8 0x2A).frameIn.head? = some 0x55 ∧
    emitted (.caset 10 12) (State.construct cfgOther).afterOpen = some (evFrame 0x55 [0x00, 0x0A, 0x00, 0x0C]) := by
  decide +kernel

/-- D-11 to D-15: the illegal requests. -/
theorem test_decode_illegal :
    decodeRequest [0x0D, 0x02] = .error (.badBool 0x02) ∧ decodeRequest [0x00] = .error (.unassignedOpcode 0x00) ∧
    decodeRequest [0x13] = .error (.unassignedOpcode 0x13) ∧ decodeRequest [0x26] = .error (.unassignedOpcode 0x26) ∧
    decodeRequest [0x05, 0x00, 0x00] = .error .tooShort := ⟨rfl, rfl, rfl, rfl, rfl⟩

/-- L2.8, serialized init entries (R97), and N5: no sentinel, refused (R98). -/
theorem test_decode_initTable :
    decodeInitTable [0x3A, 0x01, 0x00, 0x05, 0x05, 0x00, 0x01, 0x00, 0x00, 0xAA, 0x00, 0x00, 0x00, 0x00] =
      .ok ([⟨0x3A, 1, 5, [0x05]⟩, ⟨0x00, 1, 0, [0xAA]⟩, ⟨0, 0, 0, []⟩], []) ∧
    InitTable.ofEntries [⟨0x11, 0, 120, []⟩] = none := ⟨rfl, rfl⟩

/-- The opcode table's words: the first byte is bits 7..0; a word on both levels is a request (log 9). -/
theorem test_decode_tableWord :
    decodeTableWord 8 0x24 = some (.fillScreen 0) ∧ decodeTableWord 16 0x010D = some (.invertDisplay true) ∧
    decodeTableWord 8 0x2A = some (.caset 0 0) ∧ decodeTableWord 8 0x36 = some (.madctl 0) ∧
    decodeTableWord 8 0x21 = some (.drawFastHLine 0 0 0 0) ∧ decodeTableWord 8 0x26 = none := by decide

/-! ## One step of each instruction -/

/-- CFG, BUSINIT and RESET_PIN with both pins (R164). -/
def evPins : List Event :=
  [.pinConfigOut 1, .pinConfigOut 2, .pinSet 2 .high, .pinConfigOut 3, .pinSet 3 .high, .pinConfigOut 4, .pinSet 4 .low,
   .busInit none none, .pinSet 3 .high, .sleep 10, .pinSet 3 .low, .sleep 20, .pinSet 3 .high, .sleep 120]
/-- CFG and BUSINIT without them. -/
def evPinsBare : List Event := [.pinConfigOut 1, .pinConfigOut 2, .pinSet 2 .high, .busInit none none]
/-- `Sleep(ms)`. -/
def evSleep (ms : U32) : List Event := [.sleep ms]
/-- `OPEN` at P3's frequency. -/
def evOpen27 : List Event := [.busOpen 27000000 .msbFirst 0, .pinSet 2 .low]
/-- The backlight pin driven HIGH. -/
def evLit : List Event := [.pinSet 4 .high]

/-- L2.2 with the pins present (R164). -/
theorem test_begin_events : emitted (.begin 0) idle = some (List.flatten
    [evPins, evOpen, evCmd 0x11, evSleep 120, evCmd 0x29, evSleep 20, evFrame 0x36 [0x48], evClose, evLit]) := by
  decide +kernel
/-- P3: the software reset, and the frequency of every BusOpen overridden. -/
theorem test_begin_bare : emitted (.begin 27000000) (State.construct cfgBare) = some (List.flatten
    [evPinsBare, evOpen27, evCmd 0x01, evSleep 150, evClose, evOpen27, evCmd 0x11, evSleep 120, evCmd 0x29, evSleep 20,
     evFrame 0x36 [0x48], evClose]) := by
  decide +kernel

/-- L1.7. -/
theorem test_startWrite : emitted .startWrite idle = some evOpen ∧ emitted .startWrite opened = some [] := by decide +kernel
theorem test_endWrite : emitted .endWrite opened = some evClose ∧ emitted .endWrite idle = some [] := by decide +kernel

/-- S5 and S3. -/
theorem test_sendCommand :
    emitted (.sendCommand 0x3A 10 [0x05]) idle = some (evOpen ++ evFrame 0x3A [0x05] ++ [.sleep 10] ++ evClose) ∧
    emitted (.sendCommand 0x11 120 []) opened = some (evCmd 0x11 ++ [.sleep 120]) := by decide +kernel

/-- A6: one pair equal to the sentinel. -/
theorem test_setAddrWindow_sentinel :
    emitted (.setAddrWindow 0xFFFF 5 1 1) opened = some (evFrame 0x2B [0x00, 0x05, 0x00, 0x05] ++ evCmd 0x2C) := by decide +kernel
/-- A10. -/
theorem test_setAddrWindow_wraps :
    emitted (.setAddrWindow 32767 0 32767 1) opened =
      some (evFrame 0x2A [0x7F, 0xFF, 0xFF, 0xFD] ++ evFrame 0x2B [0x00, 0x00, 0x00, 0x00] ++ evCmd 0x2C) ∧
    after (.setAddrWindow 32767 0 32767 1) opened cacheOf = some (0x7FFF, 0xFFFD, 0x0000, 0x0000) := by decide +kernel

/-- R5. -/
theorem test_writeColorRepeated :
    emitted (.writeColorRepeated 0x07E0 65) opened =
      some (evData ++ [.busWriteBytes (List.replicate 64 [0x07, 0xE0]).flatten, .busWriteBytes [0x07, 0xE0]]) := by decide +kernel
/-- Q1. -/
theorem test_writeColorRepeated_idle :
    emitted (.writeColorRepeated 0x1234 1) idle =
      some ([.fault .idleStream] ++ evData ++ [.busWriteBytes [0x12, 0x34]]) := by decide +kernel

/-- X1. -/
theorem test_writePixel :
    emitted (.writePixel 5 5 0xABCD) opened =
      some (evFrame 0x2A [0x00, 0x05, 0x00, 0x05] ++ evFrame 0x2B [0x00, 0x05, 0x00, 0x05] ++ evCmd 0x2C ++ evData ++
        [.busWriteBytes [0xAB, 0xCD]]) := by decide +kernel
/-- X4, X5. -/
theorem test_writePixel_outside :
    emitted (.writePixel 240 0 1) opened = some [] ∧ emitted (.writePixel 0 0xFFFF 1) opened = some [] := by decide +kernel

/-- X6. -/
theorem test_writePixels :
    emitted (.writePixels [0x1234, 0xABCD]) opened = some (evData ++ [.busWriteBytes [0x12, 0x34, 0xAB, 0xCD]]) := by decide +kernel
/-- X8's last chunk, and P5's end state: BUF slot 0 holds the last element that went through it. -/
theorem test_writePixels_chunks :
    (emitted (.writePixels ((List.range 65).map (BitVec.ofNat 16))) opened).map (·.drop 2) =
      some [.busWriteBytes [0x00, 0x40]] ∧
    after (.writePixels ((List.range 65).map (BitVec.ofNat 16))) opened (fun s => (s.buf[0], s.buf[1])) = some (64, 1) := by
  decide +kernel

/-- Y1 with its range frames and its last chunk. -/
theorem test_writeFastHLine :
    emitted (.writeFastHLine 0 10 240 0xFFFF) opened =
      some (evFrame 0x2A [0x00, 0x00, 0x00, 0xEF] ++ evFrame 0x2B [0x00, 0x0A, 0x00, 0x0A] ++ evCmd 0x2C ++ evData ++
        List.replicate 3 (.busWriteBytes (List.replicate 128 0xFF)) ++ [.busWriteBytes (List.replicate 96 0xFF)]) := by decide +kernel
/-- Y2. -/
theorem test_writeFastVLine :
    emitted (.writeFastVLine 3 0 10 0x0000) opened =
      some (evFrame 0x2A [0x00, 0x03, 0x00, 0x03] ++ evFrame 0x2B [0x00, 0x00, 0x00, 0x09] ++ evCmd 0x2C ++ evData ++
        [.busWriteBytes (List.replicate 20 0x00)]) := by decide +kernel
/-- Y3, Y5. -/
theorem test_writeFillRect :
    emitted (.writeFillRect 10 20 3 2 0xF800) opened =
      some (evFrame 0x2A [0x00, 0x0A, 0x00, 0x0C] ++ evFrame 0x2B [0x00, 0x14, 0x00, 0x15] ++ evCmd 0x2C ++ evData ++
        [.busWriteBytes (List.replicate 6 [0xF8, 0x00]).flatten]) ∧
    emitted (.writeFillRect 0 0 5 0xFFFF 1) opened = some [] := by decide +kernel
/-- Y6: no clipping. -/
theorem test_writeFillRect_unclipped :
    emitted (.writeFillRect 0xFFFD 0 2 1 0x1234) opened =
      some (evFrame 0x2A [0xFF, 0xFD, 0xFF, 0xFE] ++ evFrame 0x2B [0x00, 0x00, 0x00, 0x00] ++ evCmd 0x2C ++ evData ++
        [.busWriteBytes [0x12, 0x34, 0x12, 0x34]]) := by decide +kernel

/-- L1.5 with r = 255, and its 240 by 320 panel. -/
theorem test_setRotation :
    emitted (.setRotation 255) opened = some (evFrame 0x36 [0xE8]) ∧
    after (.setRotation 255) (State.construct { cfg with rawH := 320 }) (fun s => (s.rotation, s.width, s.height)) =
      some (3, 320, 240) := by decide +kernel
/-- K-4. -/
theorem test_setRotation_idle : emitted (.setRotation 5) idle = some (evOpen ++ evFrame 0x36 [0x28] ++ evClose) := by decide +kernel

/-- K-1, K-2. -/
theorem test_invertDisplay :
    emitted (.invertDisplay true) opened = some (evCmd 0x21) ∧ emitted (.invertDisplay false) opened = some (evCmd 0x20) := by
  decide +kernel
/-- B2, B3, B1. -/
theorem test_setBacklight :
    emitted (.setBacklight true) idle = some [.pinSet 4 .high] ∧ after (.setBacklight false) idle (·.backlightLevel) = some 0 ∧
    emitted (.setBacklight true) (State.construct cfgBare) = some [] := by decide +kernel
/-- B4 to B7. -/
theorem test_setBacklightLevel :
    emitted (.setBacklightLevel 1) idle = some [.pinSet 4 .high] ∧ emitted (.setBacklightLevel 0) idle = some [.pinSet 4 .low] ∧
    after (.setBacklightLevel 7) idle (·.backlightLevel) = some 7 ∧
    after (.setBacklightLevel 0) (State.construct cfgBare) (·.backlightLevel) = some 255 := by decide +kernel

/-- G1. -/
theorem test_getWidth : after .getWidth idle (·.results) = some [.u16 240] ∧ emitted .getWidth idle = some [] := by decide +kernel
theorem test_getHeight : after .getHeight (State.construct { cfg with rawH := 320 }) (·.results) = some [.u16 320] := by decide +kernel
/-- G2, its state written down. -/
theorem test_getRotation : after .getRotation { idle with rotation := 2 } (·.results) = some [.u8 2] := by decide +kernel

/-- E8: the host's bracket is closed. -/
theorem test_drawPixel :
    emitted (.drawPixel 1 1 0x07E0) opened =
      some (evFrame 0x2A [0x00, 0x01, 0x00, 0x01] ++ evFrame 0x2B [0x00, 0x01, 0x00, 0x01] ++ evCmd 0x2C ++ evData ++
        [.busWriteBytes [0x07, 0xE0]] ++ evClose) := by decide +kernel
/-- E1, E2. -/
theorem test_drawPixel_outside :
    emitted (.drawPixel 0xFFFF 0 1) idle = some [] ∧ emitted (.drawPixel 0 240 1) idle = some [] := by decide +kernel
/-- E3. -/
theorem test_drawFastHLine :
    emitted (.drawFastHLine 0xFFF6 0 20 0x07E0) idle =
      some (evOpen ++ evFrame 0x2A [0x00, 0x00, 0x00, 0x09] ++ evFrame 0x2B [0x00, 0x00, 0x00, 0x00] ++ evCmd 0x2C ++ evData ++
        [.busWriteBytes (List.replicate 10 [0x07, 0xE0]).flatten] ++ evClose) := by decide +kernel
/-- E4. -/
theorem test_drawFastVLine :
    emitted (.drawFastVLine 0 235 10 0x07E0) idle =
      some (evOpen ++ evFrame 0x2A [0x00, 0x00, 0x00, 0x00] ++ evFrame 0x2B [0x00, 0xEB, 0x00, 0xEF] ++ evCmd 0x2C ++ evData ++
        [.busWriteBytes (List.replicate 5 [0x07, 0xE0]).flatten] ++ evClose) := by decide +kernel
/-- P1. -/
theorem test_fillRect :
    emitted (.fillRect 10 20 3 2 0xF800) idle =
      some (evOpen ++ evFrame 0x2A [0x00, 0x0A, 0x00, 0x0C] ++ evFrame 0x2B [0x00, 0x14, 0x00, 0x15] ++ evCmd 0x2C ++ evData ++
        [.busWriteBytes (List.replicate 6 [0xF8, 0x00]).flatten] ++ evClose) ∧
    after (.fillRect 10 20 3 2 0xF800) idle cacheOf = some (10, 12, 20, 21) := by decide +kernel
/-- E5. -/
theorem test_fillRect_outside : emitted (.fillRect 240 0 5 5 1) idle = some [] := by decide +kernel
/-- R256 on a canvas of 3 by 2. -/
theorem test_fillScreen :
    emitted (.fillScreen 0x07E0) { idle with width := 3, height := 2 } =
      some (evOpen ++ evFrame 0x2A [0x00, 0x00, 0x00, 0x02] ++ evFrame 0x2B [0x00, 0x00, 0x00, 0x01] ++ evCmd 0x2C ++ evData ++
        [.busWriteBytes (List.replicate 6 [0x07, 0xE0]).flatten] ++ evClose) := by decide +kernel
/-- K2. -/
theorem test_clipRect :
    after (.clipRect 0xFFFB 230 20 20) idle (·.results) = some [.clip true ⟨0, 230, 15, 10⟩] := by decide +kernel
/-- K12: false, whatever the rectangle. -/
theorem test_clipRect_empty :
    after (.clipRect 0x8000 0x8000 32767 32767) idle (·.results.map fun r => match r with | .clip ok _ => ok | _ => true) =
      some [false] := by decide +kernel

/-- R103: the frames, with the gate Open. -/
theorem test_caset : emitted (.caset 10 12) opened = some (evFrame 0x2A [0x00, 0x0A, 0x00, 0x0C]) := by decide +kernel
theorem test_raset : emitted (.raset 20 277) opened = some (evFrame 0x2B [0x00, 0x14, 0x01, 0x15]) := by decide +kernel
theorem test_ramwr : emitted .ramwr opened = some (evCmd 0x2C) := by decide +kernel
theorem test_madctl : emitted (.madctl 0x48) opened = some (evFrame 0x36 [0x48]) := by decide +kernel
theorem test_invon : emitted .invon opened = some (evCmd 0x21) := by decide +kernel
theorem test_invoff : emitted .invoff opened = some (evCmd 0x20) := by decide +kernel
/-- L2.2's PRE: the software reset from Idle. -/
theorem test_swreset : emitted .swreset idle = some (evOpen ++ evCmd 0x01 ++ [.sleep 150] ++ evClose) := by decide +kernel

/-! ## Steps -/

/-- R96: an illegal request is refused. -/
theorem test_step_illegal :
    step { idle with hostIn := [0x13] } = .refused (.illegalRequest (.unassignedOpcode 0x13)) := rfl
/-- R287: an event the environment never completes. -/
theorem test_step_stalls : step { idle with hostIn := [0x02], stallAt := some 1 } = .fault .busStalled := rfl
/-- The host's table words run as the first instruction after reset. -/
theorem test_step_fetchWord :
    (match step (State.reset.withFetchWord 8 0x10) with | .next t => t.results | _ => []) = [.u16 240] := by
  decide +kernel

/-! ## Witnesses: a state and operands that meet each statement's hypotheses, each clause at a boundary -/

/-- `s` with a request pending. -/
def pending (s : State) (bs : List Byte) : State := { s with hostIn := bs }

theorem witness_RequestsRoundTrip :
    (Instr.writePixels [0xFFFF]).level = .request ∧ (Instr.writePixels [0xFFFF]).wellFormed = true := by decide
theorem witness_FramesRoundTrip :
    (Instr.caset 0 0xFFFF).level = .frame ∧ Config.machine.frameCommands.Nodup ∧ cfgOther.frameCommands.Nodup := by decide
theorem witness_DecodedFramesAreRecords :
    decodeFrame cfgOther [0x55, 0x00, 0x0A, 0x00, 0x0C, 0x07] = .ok (.caset 10 12, [0x07]) ∧
    (0x01 : Byte) ∈ cfgOther.frameCommands ∧ 4 ≤ [(0 : Byte), 0, 0, 0].length ∧ (0x2A : Byte) ∉ cfgOther.frameCommands :=
  ⟨rfl, by decide, by decide, by decide⟩
theorem witness_DecodedRequestsAreRecords : decodeRequest [0x0C, 0xFF, 0x02] = .ok (.setRotation 0xFF, [0x02]) := rfl
theorem witness_InitEntriesRoundTrip : (⟨0x3A, 1, 0, [0x05]⟩ : InitEntry).wf = true := by decide
/-- Opcodes 0x00, 0x13, 0x1F, 0x26 and 0xFF, the smallest bad bool, and a request one byte short. -/
theorem witness_IllegalRequestsRefused :
    idle.frameIn = [] ∧
    (∀ op ∈ [(0x00 : Byte), 0x13, 0x1F, 0x26, 0xFF],
      op.toNat = 0x00 ∨ (0x13 ≤ op.toNat ∧ op.toNat ≤ 0x1F) ∨ 0x26 ≤ op.toNat) ∧
    (0x02 : Byte) ≠ 0x00 ∧ (0x02 : Byte) ≠ 0x01 ∧
    (Instr.fillScreen 7).level = .request ∧ (Instr.fillScreen 7).wellFormed = true ∧ 0 < 2 ∧
    2 < (encode (.fillScreen 7)).length := by decide
theorem witness_StepRunsDecodedOperation :
    ((pending idle [0x02]).frameIn = [] ∧ decodeRequest (pending idle [0x02]).hostIn = .ok (.startWrite, [])) ∧
    ({ idle with frameIn := [0x2C] }.frameIn ≠ [] ∧ decodeFrame { idle with frameIn := [0x2C] }.cfg { idle with frameIn := [0x2C] }.frameIn = .ok (.ramwr, [])) ∧
    idle.frameIn = [] ∧ idle.hostIn = [] := ⟨⟨rfl, rfl⟩, ⟨by simp, rfl⟩, rfl, rfl⟩
theorem witness_ConstructionValues : idle = State.construct cfg := rfl

/-- The hypotheses on the environment and the gate, on each side of the gate. -/
theorem witness_gate :
    idle.stallAt = none ∧ idle.inTx = false ∧ opened.stallAt = none ∧ opened.inTx = true := by decide
theorem witness_StartWriteOpensOnce : idle.stallAt = none ∧ opened.stallAt = none := by decide
theorem witness_EndWriteClosesOnce : idle.stallAt = none ∧ opened.stallAt = none := by decide
theorem witness_SendCommandEmitsItsFrame : idle.stallAt = none ∧ opened.stallAt = none := by decide
theorem witness_ComposedFramesAreSent : idle.stallAt = none := by decide
theorem witness_StepKeepsBracketLaw :
    (pending opened [0x03]).bracketLaw ∧ ∃ t, step (pending opened [0x03]) = .next t :=
  ⟨by unfold State.bracketLaw; decide, _, rfl⟩

theorem witness_BeginFromIdle : idle.stallAt = none ∧ idle.inTx = false := by decide
/-- With the reset pin and without it (the equation on the events names them). -/
theorem witness_BeginFromOpen :
    opened.stallAt = none ∧ opened.inTx = true ∧ csAlone opened.cfg ∧ opened.cfg.pinRst = some 3 ∧
    (State.construct cfgBare).afterOpen.stallAt = none ∧ (State.construct cfgBare).afterOpen.inTx = true ∧
    (State.construct cfgBare).afterOpen.cfg.pinRst = none := by
  unfold csAlone; decide
theorem witness_BeginLightsAndReturnsTrue :
    idle.stallAt = none ∧ idle.cfg.pinBl = some 4 ∧ (State.construct cfgBare).stallAt = none ∧
    (State.construct cfgBare).cfg.pinBl = none := by decide
theorem witness_BeginStopsAtFirstSentinel : idle.stallAt = none := by decide
theorem witness_BeginSleepsAddUp : idle.stallAt = none := by decide
theorem witness_StateAfterBegin :
    idle.stallAt = none ∧ idle.inTx = false ∧ csAlone idle.cfg ∧
    (∀ p, idle.cfg.pinRst = some p → p ≠ idle.cfg.pinDc ∧ idle.cfg.pinBl ≠ some p) ∧
    idle.cfg.pinBl ≠ some idle.cfg.pinDc :=
  ⟨rfl, rfl, by unfold csAlone; decide, fun p h => by cases h; decide, by decide⟩

theorem witness_SetAddrWindowResult :
    opened.stallAt = none ∧ (0xFFFD : U16) = BitVec.ofInt 16 ((0x7FFF : U16).toInt + opened.colStart.toInt + (0x7FFF : U16).toInt - 1) ∧
    (0x7FFF : U16) = BitVec.ofInt 16 ((0x7FFF : U16).toInt + opened.colStart.toInt) ∧
    (0x0000 : U16) = BitVec.ofInt 16 ((0x0000 : U16).toInt + opened.rowStart.toInt) ∧
    (0xFFFF : U16) = BitVec.ofInt 16 ((0x0000 : U16).toInt + opened.rowStart.toInt + (0x0000 : U16).toInt - 1) := by decide
theorem witness_WindowCaching :
    opened.stallAt = none ∧
    BitVec.ofInt 16 ((11 : U16).toInt + opened.colStart.toInt) ≠ BitVec.ofInt 16 ((10 : U16).toInt + opened.colStart.toInt) := by
  decide
theorem witness_RotationInvalidatesWindow : opened.stallAt = none := by decide
theorem witness_WindowReadsAsFrames :
    opened.stallAt = none ∧ opened.inTx = true ∧ opened.cfg.lvlCmd ≠ opened.cfg.lvlData := by decide

theorem witness_FillEngineStreams : opened.stallAt = none ∧ opened.inTx = true := by decide
theorem witness_FillChunkCounts : opened.stallAt = none := by decide
/-- Column 240 and row −1 are outside; (0, 0) and (239, 239) are inside. -/
theorem witness_WritePixelResult :
    opened.stallAt = none ∧ (opened.width.toNat : Int) ≤ (240 : U16).toInt ∧ (0xFFFF : U16).toInt < 0 ∧ opened.inTx = true ∧
    0 ≤ (0 : U16).toInt ∧ (0 : U16).toInt < opened.width.toNat ∧ 0 ≤ (239 : U16).toInt ∧
    (239 : U16).toInt < opened.height.toNat := by decide
theorem witness_WritePixelsResult : opened.stallAt = none ∧ opened.inTx = true := by decide
theorem witness_WritePixelsKeepsOrder : opened.stallAt = none := by decide
theorem witness_IdleStreamsFaultAndRun :
    idle.stallAt = none ∧ idle.inTx = false ∧ 0 ≤ (0 : U16).toInt ∧ (239 : U16).toInt < idle.width.toNat ∧
    (239 : U16).toInt < idle.height.toNat := by decide
theorem witness_LinesAndRectanglesStreamOnce : opened.stallAt = none := by decide
theorem witness_PrematureClose :
    idle.stallAt = none ∧ 0 ≤ (0 : U16).toInt ∧ (0 : U16).toInt < idle.width.toNat ∧ (0 : U16).toInt < idle.height.toNat := by
  decide

theorem witness_SetRotationResult : idle.stallAt = none ∧ (3 : BitVec 2).toNat = (255 : Byte).toNat % 4 := by decide
theorem witness_RotationIsModuloFour : (1 : Byte).toNat % 4 = (5 : Byte).toNat % 4 := by decide
theorem witness_InvertDisplayResult : idle.stallAt = none := by decide
theorem witness_SetBacklightResult :
    idle.stallAt = none ∧ idle.cfg.pinBl = some 4 ∧ (State.construct cfgBare).stallAt = none ∧
    (State.construct cfgBare).cfg.pinBl = none := by decide
theorem witness_SetBacklightLevelResult :
    idle.stallAt = none ∧ idle.cfg.pinBl = some 4 ∧ (State.construct cfgBare).stallAt = none ∧
    (State.construct cfgBare).cfg.pinBl = none := by decide

/-- K3 and K13 meet the true clause, K12, K14, K4 and K8 the false one. -/
theorem witness_ClipRectResult :
    (0 < (10 : U16).toInt ∧ max (239 : U16).toInt 0 < min ((239 : U16).toInt + (10 : U16).toInt) idle.width.toNat) ∧
    min ((0x8000 : U16).toInt + (0x7FFF : U16).toInt) idle.width.toNat ≤ max (0x8000 : U16).toInt 0 ∧
    min ((0xFFF6 : U16).toInt + (10 : U16).toInt) idle.width.toNat ≤ max (0xFFF6 : U16).toInt 0 ∧
    min ((240 : U16).toInt + (1 : U16).toInt) idle.width.toNat ≤ max (240 : U16).toInt 0 ∧ (0 : U16).toInt ≤ 0 := by decide
theorem witness_DrawPixelResult :
    idle.stallAt = none ∧ (0xFFFF : U16).toInt < 0 ∧ (idle.height.toNat : Int) ≤ (240 : U16).toInt ∧
    0 ≤ (239 : U16).toInt ∧ (239 : U16).toInt < idle.width.toNat ∧ (239 : U16).toInt < idle.height.toNat := by decide
/-- An empty intersection, and E7. -/
theorem witness_DrawClippedRectangles :
    idle.stallAt = none ∧ min ((240 : Int) + 5) idle.width.toNat ≤ max 240 0 ∧ (0 : Int) < 20 ∧
    (240 : Int) = min (230 + 20) idle.width.toNat ∧ max (230 : Int) 0 < 240 := by decide
theorem witness_FillScreenFillsCanvas : idle.stallAt = none ∧ 0 < idle.width.toNat ∧ 0 < idle.height.toNat := by decide
theorem witness_FillScreenScenario :
    idle.stallAt = none ∧ idle.inTx = false ∧ idle.width = 240 ∧ idle.height = 240 ∧ idle.colStart = 0 ∧ idle.rowStart = 0 ∧
    idle.cachedX0 = 0xFFFF ∧ idle.cachedX1 = 0xFFFF ∧ idle.cachedY0 = 0xFFFF ∧ idle.cachedY1 = 0xFFFF := by decide
theorem witness_FrontEndOneTransaction :
    idle.stallAt = none ∧ idle.inTx = false ∧ (∃ c, Instr.fillScreen 7 = .fillScreen c) := ⟨rfl, rfl, 7, rfl⟩

/-- The frames speak of an instruction that answers a next state. -/
theorem witness_ControlRegisterFrame : ∃ t, exec (.fillScreen 7) idle = .next t := ⟨_, exec_completes rfl _⟩
theorem witness_WindowCacheFrame : ∃ t, exec (.sendCommand 0x2A 0 [1]) idle = .next t := ⟨_, exec_completes rfl _⟩
theorem witness_ChunkBufferFrame :
    (∃ t, exec (.writeColorRepeated 7 63) opened = .next t) ∧ (63 : U32).toNat ≤ 63 ∧ (∃ t, exec .ramwr opened = .next t) :=
  ⟨⟨_, exec_completes rfl _⟩, by decide, _, exec_completes rfl _⟩
/-- Every clause from an Open gate, startWrite and endWrite also from Idle; of the front end a last pixel inside the canvas,
and an empty rectangle, which leaves the state as it is. -/
theorem witness_GateFrame :
    (∀ i ∈ [Instr.startWrite, .endWrite, .begin 0, .drawPixel 239 239 7, .drawFastHLine 239 0 1 7, .drawFastVLine 0 239 1 7,
        .fillRect 239 239 1 1 7, .fillRect 0 0 0 1 7, .fillScreen 7, .setRotation 1], ∃ t, exec i opened = .next t) ∧
    (∃ t, exec .startWrite idle = .next t) ∧ (∃ t, exec .endWrite idle = .next t) ∧
    opened.inTx = true ∧ (effect (.drawPixel 239 239 7) opened).inTx = false ∧ effect (.fillRect 0 0 0 1 7) opened = opened :=
  ⟨fun i _ => ⟨_, exec_completes rfl i⟩, ⟨_, exec_completes rfl _⟩, ⟨_, exec_completes rfl _⟩, rfl, by decide +kernel,
    by decide +kernel⟩

theorem witness_StepKeepsGeometry :
    (pending idle [0x0C, 0x01]).geometry ∧ ∃ t, step (pending idle [0x0C, 0x01]) = .next t := ⟨⟨rfl, rfl⟩, _, rfl⟩
theorem witness_RotationHoldsLastArgument : ∃ t, exec (.setRotation 255) idle = .next t := ⟨_, exec_completes rfl _⟩
theorem witness_FrequencyRule :
    idle.inTx = false ∧ (∃ t, exec .startWrite idle = .next t) ∧ (∃ t, exec (.begin 1) idle = .next t) :=
  ⟨rfl, ⟨_, exec_completes rfl _⟩, _, exec_completes rfl _⟩
theorem witness_StepKeepsZeroOffsets :
    (pending idle [0x0C, 0x01]).noOffset ∧ ∃ t, step (pending idle [0x0C, 0x01]) = .next t := ⟨⟨rfl, rfl⟩, _, rfl⟩
theorem witness_StepOnlyAppends : ∃ t, step (pending idle [0x10]) = .next t := ⟨_, rfl⟩
theorem witness_StepKeepsEventForms :
    (pending opened [0x03]).eventsWf ∧ ∃ t, step (pending opened [0x03]) = .next t :=
  ⟨by unfold State.eventsWf; decide, _, rfl⟩
theorem witness_StepKeepsFaultRecord :
    (pending idle [0x08, 0x00, 0x00, 0x00, 0x01, 0x00, 0x01]).faultRecorded ∧
    ∃ t, step (pending idle [0x08, 0x00, 0x00, 0x00, 0x01, 0x00, 0x01]) = .next t :=
  ⟨by unfold State.faultRecorded; decide, _, rfl⟩
theorem witness_StepLeavesDataMode :
    idle.cfg.pinDc ≠ idle.cfg.pinCs ∧ idle.cfg.pinRst ≠ some idle.cfg.pinDc ∧ idle.cfg.pinBl ≠ some idle.cfg.pinDc ∧
    pinLevel idle.cfg.pinDc idle.trace = none ∧ ∃ t, step (pending idle [0x0D, 0x01]) = .next t :=
  ⟨by decide, by decide, by decide, rfl, _, rfl⟩
theorem witness_NoFaultMeansDelivered :
    csAlone idle.cfg ∧ beginDuty (.begin 0) idle ∧ idle.csFollowsGate ∧ (idle.faultIdleStream = false → idle.allDelivered) ∧
    ∃ t, exec (.begin 0) idle = .next t :=
  ⟨by unfold csAlone; decide, rfl, by unfold State.csFollowsGate; decide, fun _ b hb => (nomatch hb), _, exec_completes rfl _⟩
/-- The event at index 1 is startWrite's second; an index past the last is never reached. -/
theorem witness_StalledEventHangs :
    { idle with stallAt := some 1 }.stallAt = some 1 ∧ (∃ t, exec .startWrite { idle with stallAt := none } = .next t) ∧
    idle.trace.length ≤ 1 ∧ (effect .startWrite idle).trace[1]? = some (.pinSet 2 .low) ∧
    (effect .startWrite idle).trace[2]? = none :=
  ⟨rfl, ⟨_, exec_completes rfl _⟩, by decide, rfl, rfl⟩

end Sys2Proof.Tests
end

/-! PROOFS. The registers of spec/10_state.md that one operation alone writes: the canvas geometry and the rotation
(R23, R24), and the frequency (R26). -/

namespace Sys2Proof.Machine

/-! ## A register that only begin or setRotation can write -/

/-- No update of an operation other than begin and setRotation writes the register `f`. -/
structure Unwritten {α : Type} (f : State → α) : Prop where
  afterOpen : ∀ s, f s.afterOpen = f s
  afterClose : ∀ s, f s.afterClose = f s
  afterCommand : ∀ s c d k, f (s.afterCommand c d k) = f s
  afterBounds : ∀ s xa xb ya yb, f (s.afterBounds xa xb ya yb) = f s
  afterFill : ∀ s c n, f (s.afterFill c n) = f s
  afterPixels : ∀ s cs, f (s.afterPixels cs) = f s
  afterPixel : ∀ s c, f (s.afterPixel c) = f s
  afterBacklight : ∀ s l on, f (s.afterBacklight l on) = f s
  returned : ∀ (s : State) rs n, f { s with results := s.results ++ rs, freeCount := n } = f s

section
variable {α : Type} {f : State → α}

theorem Unwritten.afterWindow (k : Unwritten f) (s : State) (x y w h : Int) : f (s.afterWindow x y w h) = f s :=
  k.afterBounds s _ _ _ _

theorem Unwritten.windowThenFill (k : Unwritten f) (s : State) (x y w h : Int) (c : U16) (n : Nat) :
    f ((s.afterWindow x y w h).afterFill c n) = f s :=
  (k.afterFill _ c n).trans (k.afterWindow s x y w h)

theorem Unwritten.windowThenPixel (k : Unwritten f) (s : State) (x y w h : Int) (c : U16) :
    f ((s.afterWindow x y w h).afterPixel c) = f s :=
  (k.afterPixel _ c).trans (k.afterWindow s x y w h)

theorem Unwritten.bracketedBy (k : Unwritten f) {g : State → State} (hg : ∀ s, f (g s) = f s) (s : State) :
    f (s.bracketedBy g) = f s := by
  rw [State.bracketedBy, k.afterClose, hg, k.afterOpen]

theorem Unwritten.afterFillRect (k : Unwritten f) (s : State) (x y w h : Int) (c : U16) :
    f (s.afterFillRect x y w h c) = f s := by
  unfold State.afterFillRect
  split
  · exact k.bracketedBy (fun s => k.windowThenFill s _ _ _ _ c _) s
  · rfl

theorem Unwritten.afterClip (k : Unwritten f) (s : State) (x y w h : Int) : f (s.afterClip x y w h) = f s := by
  unfold State.afterClip
  split
  · exact k.returned s _ s.freeCount
  · exact k.returned s _ _

/-- The frame rule: only begin and setRotation can change such a register. -/
theorem Unwritten.effect (k : Unwritten f) {i : Instr} (hb : ∀ v, i ≠ .begin v) (hr : ∀ r, i ≠ .setRotation r)
    (s : State) : f (effect i s) = f s := by
  cases i with
  | begin v => exact absurd rfl (hb v)
  | setRotation r => exact absurd rfl (hr r)
  | startWrite => exact k.afterOpen s
  | endWrite => exact k.afterClose s
  | sendCommand | invertDisplay | caset | raset | ramwr | madctl | invon | invoff | swreset => exact k.afterCommand s _ _ _
  | setAddrWindow => exact k.afterWindow s _ _ _ _
  | writeColorRepeated => exact k.afterFill s _ _
  | writePixels => exact k.afterPixels s _
  | setBacklight | setBacklightLevel => exact k.afterBacklight s _ _
  | getWidth | getHeight | getRotation => exact k.returned s _ s.freeCount
  | clipRect => exact k.afterClip s _ _ _ _
  | drawFastHLine | drawFastVLine | fillRect | fillScreen => exact k.afterFillRect s _ _ _ _ _
  | writePixel =>
    dsimp only [Machine.effect]; split
    · rfl
    · exact k.windowThenPixel s _ _ _ _ _
  | drawPixel =>
    dsimp only [Machine.effect]; split
    · rfl
    · exact k.bracketedBy (fun s => k.windowThenPixel s _ _ _ _ _) s
  | writeFastHLine | writeFastVLine | writeFillRect =>
    dsimp only [Machine.effect]; split
    · rfl
    · exact k.windowThenFill s _ _ _ _ _ _

end

/-! ## The rotation (R24) and the frequency (R26) -/

theorem rotation_unwritten : Unwritten State.rotation where
  afterOpen := afterOpen_rotation
  afterClose := afterClose_rotation
  afterCommand := afterCommand_rotation
  afterBounds := afterBounds_rotation
  afterFill := afterFill_rotation
  afterPixels := afterPixels_rotation
  afterPixel := afterPixel_rotation
  afterBacklight := afterBacklight_rotation
  returned _ _ _ := rfl

theorem spiFrequency_unwritten : Unwritten State.spiFrequency where
  afterOpen := afterOpen_spiFrequency
  afterClose := afterClose_spiFrequency
  afterCommand := afterCommand_spiFrequency
  afterBounds := afterBounds_spiFrequency
  afterFill := afterFill_spiFrequency
  afterPixels := afterPixels_spiFrequency
  afterPixel := afterPixel_spiFrequency
  afterBacklight := afterBacklight_spiFrequency
  returned _ _ _ := rfl

/-- begin calls setRotation with the rotation it finds (R158). -/
theorem effect_rotation_of_ne_setRotation {i : Instr} (hr : ∀ r, i ≠ .setRotation r) (s : State) :
    (effect i s).rotation = s.rotation := by
  by_cases hb : ∃ v, i = .begin v
  · obtain ⟨v, rfl⟩ := hb
    exact afterBegin_rotation s v
  · exact rotation_unwritten.effect (not_exists.1 hb) hr s

theorem effect_setRotation_rotation (r : Byte) (s : State) : (effect (.setRotation r) s).rotation = r.setWidth 2 :=
  rfl

/-- setRotation does not touch the frequency. -/
theorem effect_spiFrequency_of_ne_begin {i : Instr} (hb : ∀ v, i ≠ .begin v) (s : State) :
    (effect i s).spiFrequency = s.spiFrequency := by
  by_cases hr : ∃ r, i = .setRotation r
  · obtain ⟨r, rfl⟩ := hr
    exact afterCommand_spiFrequency (s.rotated _) _ _ _
  · exact spiFrequency_unwritten.effect hb (not_exists.1 hr) s

/-! ## The canvas geometry (R23) -/

theorem geometry_iff (s : State) :
    s.geometry ↔ s.width = rotatedWidth s.cfg s.rotation ∧ s.height = rotatedHeight s.cfg s.rotation := Iff.rfl

theorem construct_geometry (cfg : Config) : (State.construct cfg).geometry := ⟨rfl, rfl⟩

/-- Whatever the geometry was, setRotation's register writes establish it. -/
theorem rotated_geometry (s : State) (r : BitVec 2) : (s.rotated r).geometry := ⟨rfl, rfl⟩

theorem afterBegin_geometry (s : State) (v : U32) : (s.afterBegin v).geometry := ⟨rfl, rfl⟩

theorem geometry_kept : Kept State.geometry where
  afterOpen _ := by simp [geometry_iff]
  afterClose _ := by simp [geometry_iff]
  afterCommand _ _ _ _ := id
  afterBounds _ _ _ _ _ := id
  afterFill _ _ _ := by simp [geometry_iff]
  afterPixels _ _ := by simp [geometry_iff]
  afterPixel _ _ := id
  rotated s r _ := rotated_geometry s r
  afterBacklight _ _ _ := by simp [geometry_iff]
  returned _ _ _ := id

theorem step_keeps_geometry {s t : State} (h : s.geometry) (hstep : step s = .next t) : t.geometry :=
  step_keeps (fun _ _ _ => id) (geometry_kept.effect fun s v _ => afterBegin_geometry s v) h hstep

/-! ## The obligations -/

/-- Settles O50: every update keeps the geometry, and setRotation's register writes establish it anew. -/
theorem stepKeepsGeometry : Obligations.StepKeepsGeometry := by
  refine ⟨construct_geometry, fun s t => step_keeps_geometry, fun i s t h hr => ?_⟩
  rw [exec_next h]
  exact effect_rotation_of_ne_setRotation hr s

/-- Settles O51, by the frame rule for the rotation. -/
theorem rotationHoldsLastArgument : Obligations.RotationHoldsLastArgument := by
  intro i s t h
  refine ⟨t.rotation.isLt, ?_, ?_⟩ <;> rw [exec_next h]
  · rintro r rfl
    rw [effect_setRotation_rotation]
    exact BitVec.toNat_setWidth 2 r
  · exact fun hr => effect_rotation_of_ne_setRotation hr s

/-- Settles O52, by the frame rule for the frequency; the event is the first of `openEvents`. -/
theorem frequencyRule : Obligations.FrequencyRule := by
  refine ⟨fun _ => rfl, fun i s t h => ?_, fun s t hgate h => ?_⟩ <;> rw [exec_next h]
  · constructor
    · rintro v rfl
      exact afterBegin_spiFrequency s v
    · exact fun hb => effect_spiFrequency_of_ne_begin hb s
  · have htrace : (effect .startWrite s).trace = s.trace ++ openEvents s := by
      simp [effect, hgate]
    rw [htrace, List.getElem?_append_right (Nat.le_refl _), Nat.sub_self]
    rfl

end Sys2Proof.Machine

/-! PROOFS. The transaction gate of spec/40_transaction.md (R130, R131): startWrite and endWrite from either gate. -/

namespace Sys2Proof.Machine

/-! ## The gate's two operations, one rule per gate -/

theorem afterOpen_of_open {s : State} (hgate : s.inTx = true) : s.afterOpen = s :=
  if_pos hgate

theorem afterOpen_of_idle {s : State} (hgate : s.inTx = false) :
    s.afterOpen = { s.log (openEvents s) with inTx := true } :=
  if_neg (Bool.eq_false_iff.1 hgate)

theorem afterClose_of_open {s : State} (hgate : s.inTx = true) :
    s.afterClose = { s.log (closeEvents s.cfg) with inTx := false } :=
  if_pos hgate

theorem afterClose_of_idle {s : State} (hgate : s.inTx = false) : s.afterClose = s :=
  if_neg (Bool.eq_false_iff.1 hgate)

theorem exec_startWrite_completes {s : State} (h : s.stallAt = none) : exec .startWrite s = .next s.afterOpen :=
  exec_completes h .startWrite

theorem exec_endWrite_completes {s : State} (h : s.stallAt = none) : exec .endWrite s = .next s.afterClose :=
  exec_completes h .endWrite

/-! ## The obligations -/

/-- Settles O10, by the rule of `afterOpen` for each gate. -/
theorem startWriteOpensOnce : Obligations.StartWriteOpensOnce := by
  refine ⟨rfl, fun s hs => ?_⟩
  rw [exec_startWrite_completes hs]
  cases hgate : s.inTx with
  | true => rw [afterOpen_of_open hgate, if_pos rfl]
  | false => rw [afterOpen_of_idle hgate, if_neg Bool.false_ne_true]; rfl

/-- Settles O11, by the rule of `afterClose` for each gate. -/
theorem endWriteClosesOnce : Obligations.EndWriteClosesOnce := by
  refine ⟨rfl, fun s hs => ?_⟩
  rw [exec_endWrite_completes hs]
  cases hgate : s.inTx with
  | true => rw [afterClose_of_open hgate, if_pos rfl]; rfl
  | false => rw [afterClose_of_idle hgate, if_neg Bool.false_ne_true]

end Sys2Proof.Machine

/-! PROOFS. Bring-up of spec/41_init_sequencer.md, its end (R159, R160): the backlight and the returned value. -/

namespace Sys2Proof.Machine

/-! ## The rule of begin, and its backlight -/

theorem exec_begin_completes {s : State} (h : s.stallAt = none) (speed : U32) :
    exec (.begin speed) s = .next (s.afterBegin speed) :=
  exec_completes h (.begin speed)

/-- R159 comes last in begin's order. -/
theorem beginEvents_getLast?_of_backlight {s : State} {p : PinId} (hp : s.cfg.pinBl = some p) :
    (beginEvents s).getLast? = some (.pinSet p .high) := by
  rw [beginEvents, hp]
  exact List.getLast?_concat

theorem afterBegin_trace_getLast?_of_backlight {s : State} {p : PinId} (hp : s.cfg.pinBl = some p) (speed : U32) :
    (s.afterBegin speed).trace.getLast? = some (.pinSet p .high) := by
  have hlast : (beginEvents (s.withSpeed speed)).getLast? = some (.pinSet p .high) :=
    beginEvents_getLast?_of_backlight hp
  rw [afterBegin_trace, List.getLast?_append, hlast, Option.some_or]

theorem afterBegin_backlightLevel_of_backlight {s : State} {p : PinId} (hp : s.cfg.pinBl = some p) (speed : U32) :
    (s.afterBegin speed).backlightLevel = 255 := by
  rw [afterBegin_backlightLevel, hp, if_neg (Option.some_ne_none p)]

theorem afterBegin_backlightLevel_of_no_backlight {s : State} (hp : s.cfg.pinBl = none) (speed : U32) :
    (s.afterBegin speed).backlightLevel = s.backlightLevel := by
  rw [afterBegin_backlightLevel, if_pos hp]

/-! ## The obligation -/

/-- Settles O17, by begin's rule and, for a configuration with the pin and one without, its backlight. -/
theorem beginLightsAndReturnsTrue : Obligations.BeginLightsAndReturnsTrue := by
  intro s speed hs
  refine ⟨s.afterBegin speed, exec_begin_completes hs speed, afterBegin_results s speed,
    afterBegin_faultIdleStream s speed, fun p hp => ⟨?lit, ?lastEvent⟩, fun hp => ?unlit⟩
  case lit => exact afterBegin_backlightLevel_of_backlight hp speed
  case lastEvent => exact afterBegin_trace_getLast?_of_backlight hp speed
  case unlit => exact afterBegin_backlightLevel_of_no_backlight hp speed

end Sys2Proof.Machine

/-! PROOFS. The backlight level and the accessors of spec/44_control.md (R237, R238 to R240). -/

namespace Sys2Proof.Machine

/-! ## The backlight, one rule with the pin and one without -/

theorem afterBacklight_of_no_pin {s : State} (hp : s.cfg.pinBl = none) (level : Byte) (on : Bool) :
    s.afterBacklight level on = s := by
  rw [State.afterBacklight, hp]

theorem afterBacklight_of_pin {s : State} {p : PinId} (hp : s.cfg.pinBl = some p) (level : Byte) (on : Bool) :
    s.afterBacklight level on = { s.log [.pinSet p (if on then .high else .low)] with backlightLevel := level } := by
  rw [State.afterBacklight, hp]

theorem exec_setBacklightLevel_completes {s : State} (h : s.stallAt = none) (level : Byte) :
    exec (.setBacklightLevel level) s = .next (s.afterBacklight level (level != 0)) :=
  exec_completes h (.setBacklightLevel level)

/-- The pin is binary (R237): LOW for level 0 alone. -/
theorem backlightPinLevel_eq (level : Byte) :
    (if level != 0 then Level.high else Level.low) = if level = 0 then .low else .high := by
  by_cases h0 : level = 0
  · rw [h0]; rfl
  · rw [if_neg h0, if_pos (bne_iff_ne.2 h0)]

/-! ## Instructions that emit nothing -/

/-- With no event to complete, the environment plays no part (R61). -/
theorem exec_of_same_trace {i : Instr} {s : State} (h : (effect i s).trace = s.trace) :
    exec i s = .next (effect i s) := by
  rw [exec_eq, finish_of_same_trace h]

/-! ## The obligations -/

/-- Settles O37, by the rule of `afterBacklight` without the pin and with it. -/
theorem setBacklightLevelResult : Obligations.SetBacklightLevelResult := by
  refine ⟨fun _ => rfl, fun s level hs => ?_⟩
  rw [exec_setBacklightLevel_completes hs]
  refine ⟨fun hp => ?noPin, fun p hp => ?pin⟩
  case noPin => rw [afterBacklight_of_no_pin hp]
  case pin => rw [afterBacklight_of_pin hp, backlightPinLevel_eq]; rfl

/-- Settles O38: no accessor emits an event, so each completes with its effect in every environment. -/
theorem accessorsReturnRegisters : Obligations.AccessorsReturnRegisters := by
  refine ⟨rfl, rfl, rfl, fun s => ⟨exec_of_same_trace rfl, exec_of_same_trace rfl, ?rotation⟩⟩
  case rotation =>
    rw [BitVec.ofNat_toNat]
    exact exec_of_same_trace rfl

end Sys2Proof.Machine

/-! PROOFS. The records of host requests (spec/30_encoding.md R90 to R95): both directions of the round trip. -/

namespace Sys2Proof.Machine

/-! ## A record read back -/

/-- A length that fits its field is the field's number. -/
theorem toNat_ofNat_of_lt {w n : Nat} (h : n < 2 ^ w) : (BitVec.ofNat w n).toNat = n := by
  rw [BitVec.toNat_ofNat, Nat.mod_eq_of_lt h]

theorem decodeRequest_encode_append (i : Instr) (rest : List Byte) :
    decodeRequest (encode i ++ rest) = decodeOperands (opcodeOf i) (operandBytes i ++ rest) := rfl

theorem decodeOperands_sendCommand (cmd : Byte) (delayMs : U16) {data : List Byte} (h : data.length < 2 ^ 8)
    (rest : List Byte) :
    decodeOperands 0x04 (operandBytes (.sendCommand cmd delayMs data) ++ rest) =
      .ok (.sendCommand cmd delayMs data, rest) := by
  simp [decodeOperands, operandBytes, readU8, toNat_ofNat_of_lt h]

theorem decodeOperands_writePixels {colors : List U16} (h : colors.length < 2 ^ 32) (rest : List Byte) :
    decodeOperands 0x08 (operandBytes (.writePixels colors) ++ rest) = .ok (.writePixels colors, rest) := by
  simp [decodeOperands, operandBytes, toNat_ofNat_of_lt h]

/-- The operands of every well-formed request read back. -/
theorem decodeOperands_operandBytes {i : Instr} (hl : i.level = .request) (hw : i.wellFormed = true)
    (rest : List Byte) : decodeOperands (opcodeOf i) (operandBytes i ++ rest) = .ok (i, rest) := by
  cases i with
  | caset | raset | ramwr | madctl | invon | invoff | swreset => cases hl
  | startWrite | endWrite | getWidth | getHeight | getRotation => rfl
  | setRotation | setBacklightLevel => rfl
  | sendCommand cmd delayMs data => exact decodeOperands_sendCommand cmd delayMs (of_decide_eq_true hw) rest
  | writePixels colors => exact decodeOperands_writePixels (of_decide_eq_true hw) rest
  | begin | setAddrWindow | writeColorRepeated | writePixel | writeFastHLine | writeFastVLine | writeFillRect
  | invertDisplay | setBacklight | drawPixel | drawFastHLine | drawFastVLine | fillRect | fillScreen | clipRect =>
    simp [decodeOperands, opcodeOf, opcodeIn, operandBytes]

/-- Settles O2: a record is its opcode and its operands, and the operands read back. -/
theorem requestsRoundTrip : Obligations.RequestsRoundTrip := by
  intro i rest hl hw
  rw [decodeRequest_encode_append]
  exact decodeOperands_operandBytes hl hw rest

/-! ## What a reader of operands accepts is a record

One rule per operand form: the request built from the values read has the bytes before `rest` as its operands. -/

/-- `x`, read from `bs`, can only be a well-formed request with opcode `op` whose operands head `bs`. -/
def ReadsRecord (op : Byte) (bs : List Byte) (x : Read Instr) : Prop :=
  ∀ i rest, x = .ok (i, rest) →
    i.level = .request ∧ i.wellFormed = true ∧ opcodeOf i = op ∧ bs = operandBytes i ++ rest

/-- What `ReadsRecord` asks of the instruction read: its level, its opcode, that it is well-formed, its operands. -/
def IsRecord (op : Byte) (operands : List Byte) (i : Instr) : Prop :=
  i.level = .request ∧ i.wellFormed = true ∧ opcodeOf i = op ∧ operandBytes i = operands

section
variable {op : Byte} {bs : List Byte}

theorem readsRecord_ok {operands rest : List Byte} {i : Instr} (h : IsRecord op operands i)
    (hbs : bs = operands ++ rest) : ReadsRecord op bs (.ok (i, rest)) := by
  obtain ⟨hl, hw, hop, rfl⟩ := h
  rintro _ _ ⟨⟩
  exact ⟨hl, hw, hop, hbs⟩

theorem readsRecord_error (e : DecodeError) : ReadsRecord op bs (.error e) := by
  rintro _ _ ⟨⟩

/-- Reading on from a reader whose accepted bytes are known. -/
theorem readsRecord_readThen {α : Type} {x : Read α} {f : α → List Byte → Read Instr}
    (h : ∀ a r, x = .ok (a, r) → ReadsRecord op bs (f a r)) : ReadsRecord op bs (readThen x f) := by
  intro i rest hi
  obtain ⟨a, r, hx, hf⟩ := readThen_eq_ok hi
  exact h a r hx i rest hf

theorem readsRecord_none {i : Instr} (h : IsRecord op [] i) : ReadsRecord op bs (.ok (i, bs)) :=
  readsRecord_ok h rfl

theorem readsRecord_u8 {mk : Byte → Instr} (h : ∀ a, IsRecord op [a] (mk a)) :
    ReadsRecord op bs (readThen (readU8 bs) fun a r => .ok (mk a, r)) :=
  readsRecord_readThen fun a _ ha => readsRecord_ok (h a) (readU8_eq_ok ha)

theorem readsRecord_bool {mk : Bool → Instr} (h : ∀ a, IsRecord op [byteBool a] (mk a)) :
    ReadsRecord op bs (readThen (readBool bs) fun a r => .ok (mk a, r)) :=
  readsRecord_readThen fun a _ ha => readsRecord_ok (h a) (readBool_eq_ok ha)

theorem readsRecord_u16 {mk : U16 → Instr} (h : ∀ a, IsRecord op (bytesU16 a) (mk a)) :
    ReadsRecord op bs (readThen (readU16 bs) fun a r => .ok (mk a, r)) :=
  readsRecord_readThen fun a _ ha => readsRecord_ok (h a) (readU16_eq_ok ha)

theorem readsRecord_u32 {mk : U32 → Instr} (h : ∀ a, IsRecord op (bytesU32 a) (mk a)) :
    ReadsRecord op bs (readThen (readU32 bs) fun a r => .ok (mk a, r)) :=
  readsRecord_readThen fun a _ ha => readsRecord_ok (h a) (readU32_eq_ok ha)

theorem readsRecord_u16u32 {mk : U16 → U32 → Instr} (h : ∀ a n, IsRecord op (bytesU16 a ++ bytesU32 n) (mk a n)) :
    ReadsRecord op bs (readThen (readU16 bs) fun a r => readThen (readU32 r) fun n r => .ok (mk a n, r)) := by
  refine readsRecord_readThen fun a r ha => readsRecord_readThen fun n r' hn => readsRecord_ok (h a n) ?_
  rw [readU16_eq_ok ha, readU32_eq_ok hn, List.append_assoc]

theorem readsRecord_u16x3 {mk : U16 → U16 → U16 → Instr}
    (h : ∀ a b c, IsRecord op (bytesU16 a ++ bytesU16 b ++ bytesU16 c) (mk a b c)) :
    ReadsRecord op bs (readThen (readU16x3 bs) fun ⟨a, b, c⟩ r => .ok (mk a b c, r)) :=
  readsRecord_readThen fun ⟨a, b, c⟩ _ hx => readsRecord_ok (h a b c) (readU16x3_eq_ok hx)

theorem readsRecord_u16x4 {mk : U16 → U16 → U16 → U16 → Instr}
    (h : ∀ a b c d, IsRecord op (bytesU16 a ++ bytesU16 b ++ bytesU16 c ++ bytesU16 d) (mk a b c d)) :
    ReadsRecord op bs (readThen (readU16x4 bs) fun ⟨a, b, c, d⟩ r => .ok (mk a b c d, r)) :=
  readsRecord_readThen fun ⟨a, b, c, d⟩ _ hx => readsRecord_ok (h a b c d) (readU16x4_eq_ok hx)

theorem readsRecord_u16x5 {mk : U16 → U16 → U16 → U16 → U16 → Instr}
    (h : ∀ a b c d e, IsRecord op (bytesU16 a ++ bytesU16 b ++ bytesU16 c ++ bytesU16 d ++ bytesU16 e) (mk a b c d e)) :
    ReadsRecord op bs
      (readThen (readU16x4 bs) fun ⟨a, b, c, d⟩ r => readThen (readU16 r) fun e r => .ok (mk a b c d e, r)) := by
  refine readsRecord_readThen fun ⟨a, b, c, d⟩ r hx => readsRecord_readThen fun e r' he =>
    readsRecord_ok (h a b c d e) ?_
  rw [readU16x4_eq_ok hx, readU16_eq_ok he, List.append_assoc _ (bytesU16 e)]

/-- SEND_COMMAND: the length byte read is the payload's length (R95). -/
theorem readsRecord_sendCommand :
    ReadsRecord 0x04 bs (readThen (readU8 bs) fun cmd r => readThen (readU16 r) fun delayMs r =>
      readThen (readU8 r) fun len r => readThen (readBytes len.toNat r) fun data r =>
      .ok (.sendCommand cmd delayMs data, r)) := by
  refine readsRecord_readThen fun cmd r1 h1 => readsRecord_readThen fun delayMs r2 h2 =>
    readsRecord_readThen fun len r3 h3 => readsRecord_readThen fun data r4 h4 => ?_
  obtain ⟨hr3, hlen⟩ := readBytes_eq_ok h4
  refine readsRecord_ok ⟨rfl, decide_eq_true (hlen ▸ len.isLt), rfl, rfl⟩ ?_
  rw [readU8_eq_ok h1, readU16_eq_ok h2, readU8_eq_ok h3, hr3]
  simp [operandBytes, hlen]

/-- WRITE_PIXELS: the length word read is the number of colours (R95). -/
theorem readsRecord_writePixels :
    ReadsRecord 0x08 bs (readThen (readU32 bs) fun len r => readThen (readU16s len.toNat r) fun colors r =>
      .ok (.writePixels colors, r)) := by
  refine readsRecord_readThen fun len r1 h1 => readsRecord_readThen fun colors r2 h2 => ?_
  obtain ⟨hr1, hlen⟩ := readU16s_eq_ok h2
  refine readsRecord_ok ⟨rfl, decide_eq_true (hlen ▸ len.isLt), rfl, rfl⟩ ?_
  rw [readU32_eq_ok h1, hr1]
  simp [operandBytes, hlen]

end

theorem byte_eq_ofNat {b : Byte} {n : Nat} (h : b.toNat = n) : b = BitVec.ofNat 8 n := by
  rw [← h, BitVec.ofNat_toNat, BitVec.setWidth_eq]

/-- The opcode table, row by row: what is read under an opcode is a record of that opcode. -/
theorem decodeOperands_readsRecord (op : Byte) (bs : List Byte) : ReadsRecord op bs (decodeOperands op bs) := by
  unfold decodeOperands
  split
  case h_1 h => rw [byte_eq_ofNat h]; exact readsRecord_u32 fun _ => ⟨rfl, rfl, rfl, rfl⟩
  case h_2 h => rw [byte_eq_ofNat h]; exact readsRecord_none ⟨rfl, rfl, rfl, rfl⟩
  case h_3 h => rw [byte_eq_ofNat h]; exact readsRecord_none ⟨rfl, rfl, rfl, rfl⟩
  case h_4 h => rw [byte_eq_ofNat h]; exact readsRecord_sendCommand
  case h_5 h => rw [byte_eq_ofNat h]; exact readsRecord_u16x4 fun _ _ _ _ => ⟨rfl, rfl, rfl, rfl⟩
  case h_6 h => rw [byte_eq_ofNat h]; exact readsRecord_u16u32 fun _ _ => ⟨rfl, rfl, rfl, rfl⟩
  case h_7 h => rw [byte_eq_ofNat h]; exact readsRecord_u16x3 fun _ _ _ => ⟨rfl, rfl, rfl, rfl⟩
  case h_8 h => rw [byte_eq_ofNat h]; exact readsRecord_writePixels
  case h_9 h => rw [byte_eq_ofNat h]; exact readsRecord_u16x4 fun _ _ _ _ => ⟨rfl, rfl, rfl, rfl⟩
  case h_10 h => rw [byte_eq_ofNat h]; exact readsRecord_u16x4 fun _ _ _ _ => ⟨rfl, rfl, rfl, rfl⟩
  case h_11 h => rw [byte_eq_ofNat h]; exact readsRecord_u16x5 fun _ _ _ _ _ => ⟨rfl, rfl, rfl, rfl⟩
  case h_12 h => rw [byte_eq_ofNat h]; exact readsRecord_u8 fun _ => ⟨rfl, rfl, rfl, rfl⟩
  case h_13 h => rw [byte_eq_ofNat h]; exact readsRecord_bool fun _ => ⟨rfl, rfl, rfl, rfl⟩
  case h_14 h => rw [byte_eq_ofNat h]; exact readsRecord_bool fun _ => ⟨rfl, rfl, rfl, rfl⟩
  case h_15 h => rw [byte_eq_ofNat h]; exact readsRecord_u8 fun _ => ⟨rfl, rfl, rfl, rfl⟩
  case h_16 h => rw [byte_eq_ofNat h]; exact readsRecord_none ⟨rfl, rfl, rfl, rfl⟩
  case h_17 h => rw [byte_eq_ofNat h]; exact readsRecord_none ⟨rfl, rfl, rfl, rfl⟩
  case h_18 h => rw [byte_eq_ofNat h]; exact readsRecord_none ⟨rfl, rfl, rfl, rfl⟩
  case h_19 h => rw [byte_eq_ofNat h]; exact readsRecord_u16x3 fun _ _ _ => ⟨rfl, rfl, rfl, rfl⟩
  case h_20 h => rw [byte_eq_ofNat h]; exact readsRecord_u16x4 fun _ _ _ _ => ⟨rfl, rfl, rfl, rfl⟩
  case h_21 h => rw [byte_eq_ofNat h]; exact readsRecord_u16x4 fun _ _ _ _ => ⟨rfl, rfl, rfl, rfl⟩
  case h_22 h => rw [byte_eq_ofNat h]; exact readsRecord_u16x5 fun _ _ _ _ _ => ⟨rfl, rfl, rfl, rfl⟩
  case h_23 h => rw [byte_eq_ofNat h]; exact readsRecord_u16 fun _ => ⟨rfl, rfl, rfl, rfl⟩
  case h_24 h => rw [byte_eq_ofNat h]; exact readsRecord_u16x4 fun _ _ _ _ => ⟨rfl, rfl, rfl, rfl⟩
  case h_25 => exact readsRecord_error _

/-- Settles O5, by the opcode table's rows. -/
theorem decodedRequestsAreRecords : Obligations.DecodedRequestsAreRecords := by
  intro bs rest i h
  cases bs with
  | nil => cases h
  | cons op bs =>
    obtain ⟨hl, hw, rfl, rfl⟩ := decodeOperands_readsRecord op bs i rest h
    exact ⟨hl, hw, rfl⟩

end Sys2Proof.Machine

/-! PROOFS. What the decoder refuses and a step takes (spec/30_encoding.md R96, spec/20_memory.md R67), the frames of R103, and
serialized init entries (R97, R99). -/

namespace Sys2Proof.Machine

/-! ## More input behind a reader's

A reader that does not run out of bytes answers the same whatever follows them. -/

/-- On `bs` the reader runs out, or it answers as it does on `bs` with `ext` behind it, up to the bytes left over. -/
def Extends {α : Type} (f : List Byte → Read α) : Prop :=
  ∀ bs ext, f bs = .error .tooShort ∨ (∃ a r, f bs = .ok (a, r) ∧ f (bs ++ ext) = .ok (a, r ++ ext)) ∨
    (∃ e, f bs = .error e ∧ f (bs ++ ext) = .error e)

theorem extends_ok {α : Type} (a : α) : Extends fun bs => .ok (a, bs) :=
  fun bs _ => .inr (.inl ⟨a, bs, rfl, rfl⟩)

theorem extends_error {α : Type} (e : DecodeError) : Extends fun _ => (.error e : Read α) :=
  fun _ _ => .inr (.inr ⟨e, rfl, rfl⟩)

theorem Extends.readThen {α β : Type} {f : List Byte → Read α} {g : α → List Byte → Read β} (hf : Extends f)
    (hg : ∀ a, Extends (g a)) : Extends fun bs => Sys2Proof.readThen (f bs) g := by
  intro bs ext
  obtain h | ⟨a, r, h, hx⟩ | ⟨e, h, hx⟩ := hf bs ext
  · exact .inl (by simp [h])
  · simpa only [h, hx, readThen_ok] using hg a r ext
  · exact .inr (.inr ⟨e, by simp [h], by simp [hx]⟩)

theorem extends_readU8 : Extends readU8
  | [], _ => .inl rfl
  | b :: r, _ => .inr (.inl ⟨b, r, rfl, rfl⟩)

theorem extends_readU16 : Extends readU16
  | [], _ | [_], _ => .inl rfl
  | b0 :: b1 :: r, _ => .inr (.inl ⟨be16 b0 b1, r, rfl, rfl⟩)

theorem extends_readU32 : Extends readU32
  | [], _ | [_], _ | [_, _], _ | [_, _, _], _ => .inl rfl
  | b0 :: b1 :: b2 :: b3 :: r, _ => .inr (.inl ⟨be32 b0 b1 b2 b3, r, rfl, rfl⟩)

theorem extends_readBool : Extends readBool
  | [], _ => .inl rfl
  | b :: r, ext => by
    by_cases h0 : b = 0x00
    · exact .inr (.inl ⟨false, r, by simp [readBool, h0], by simp [readBool, h0]⟩)
    · by_cases h1 : b = 0x01
      · exact .inr (.inl ⟨true, r, by simp [readBool, h1], by simp [readBool, h1]⟩)
      · exact .inr (.inr ⟨.badBool b, by simp_all [readBool], by simp_all [readBool]⟩)

theorem extends_readBytes (n : Nat) : Extends (readBytes n) := by
  intro bs ext
  by_cases h : bs.length < n
  · exact .inl (if_pos h)
  · have hx : ¬ (bs ++ ext).length < n := by rw [List.length_append]; omega
    refine .inr (.inl ⟨bs.take n, bs.drop n, if_neg h, ?_⟩)
    rw [readBytes, if_neg hx, List.take_append_of_le_length (by omega), List.drop_append_of_le_length (by omega)]

theorem extends_readU16s (n : Nat) : Extends (readU16s n) :=
  (extends_readBytes (2 * n)).readThen fun _ => extends_ok _

theorem extends_readU16x3 : Extends readU16x3 :=
  extends_readU16.readThen fun _ => extends_readU16.readThen fun _ => extends_readU16.readThen fun _ => extends_ok _

theorem extends_readU16x4 : Extends readU16x4 :=
  extends_readU16.readThen fun _ => extends_readU16x3.readThen fun _ => extends_ok _

/-- The opcode table, row by row. -/
theorem extends_decodeOperands (op : Byte) : Extends (decodeOperands op) := by
  unfold decodeOperands
  split
  case h_1 => exact extends_readU32.readThen fun _ => extends_ok _
  case h_2 | h_3 | h_16 | h_17 | h_18 => exact extends_ok _
  case h_4 =>
    exact extends_readU8.readThen fun _ => extends_readU16.readThen fun _ => extends_readU8.readThen fun _ =>
      (extends_readBytes _).readThen fun _ => extends_ok _
  case h_6 => exact extends_readU16.readThen fun _ => extends_readU32.readThen fun _ => extends_ok _
  case h_7 | h_19 => exact extends_readU16x3.readThen fun _ => extends_ok _
  case h_8 => exact extends_readU32.readThen fun _ => (extends_readU16s _).readThen fun _ => extends_ok _
  case h_5 | h_9 | h_10 | h_20 | h_21 | h_24 => exact extends_readU16x4.readThen fun _ => extends_ok _
  case h_11 | h_22 => exact extends_readU16x4.readThen fun _ => extends_readU16.readThen fun _ => extends_ok _
  case h_12 | h_15 => exact extends_readU8.readThen fun _ => extends_ok _
  case h_13 | h_14 => exact extends_readBool.readThen fun _ => extends_ok _
  case h_23 => exact extends_readU16.readThen fun _ => extends_ok _
  case h_25 => exact extends_error _

/-! ## Refusals -/

theorem decodeOperands_unassigned {op : Byte}
    (h : op.toNat = 0x00 ∨ (0x13 ≤ op.toNat ∧ op.toNat ≤ 0x1F) ∨ 0x26 ≤ op.toNat) (bs : List Byte) :
    decodeOperands op bs = .error (.unassignedOpcode op) := by
  unfold decodeOperands
  split
  case h_25 => rfl
  all_goals omega

theorem readBool_badBool {b : Byte} (h0 : b ≠ 0x00) (h1 : b ≠ 0x01) (r : List Byte) :
    readBool (b :: r) = .error (.badBool b) := by
  rw [readBool, if_neg h0, if_neg h1]

/-- A well-formed record cut short runs out: with the rest behind it any other answer would leave bytes over. -/
theorem decodeRequest_take_encode {i : Instr} {n : Nat} (hl : i.level = .request) (hw : i.wellFormed = true) (h0 : 0 < n)
    (hn : n < (encode i).length) : decodeRequest ((encode i).take n) = .error .tooShort := by
  obtain ⟨n, rfl⟩ : ∃ m, n = m + 1 := ⟨n - 1, by omega⟩
  have hlt : n < (operandBytes i).length := Nat.lt_of_succ_lt_succ hn
  have hwhole := decodeOperands_operandBytes hl hw []
  rw [List.append_nil] at hwhole
  have hcut := extends_decodeOperands (opcodeOf i) ((operandBytes i).take n) ((operandBytes i).drop n)
  rw [List.take_append_drop, hwhole] at hcut
  obtain h | ⟨a, r, -, h⟩ | ⟨e, -, h⟩ := hcut
  · exact h
  · injection h with h
    injection h with _ h
    have hlen := congrArg List.length h
    rw [List.length_append, List.length_drop, List.length_nil] at hlen
    omega
  · cases h

/-! ## What a step takes -/

theorem step_of_request {s : State} {i : Instr} {rest : List Byte} (hf : s.frameIn = [])
    (h : decodeRequest s.hostIn = .ok (i, rest)) : step s = exec i { s with hostIn := rest } := by
  simp [step, fetch, hf, fetchRequest, h]

theorem step_of_frame {s : State} {i : Instr} {rest : List Byte} (hf : s.frameIn ≠ [])
    (h : decodeFrame s.cfg s.frameIn = .ok (i, rest)) : step s = exec i { s with frameIn := rest } := by
  simp [step, fetch, hf, fetchFrame, h]

theorem step_of_nothing {s : State} (hf : s.frameIn = []) (hh : s.hostIn = []) : step s = .next s := by
  simp [step, fetch, hf, fetchRequest, hh, decodeRequest]

theorem step_of_illegal {s : State} {e : DecodeError} (hf : s.frameIn = []) (h : decodeRequest s.hostIn = .error e)
    (he : e ≠ .empty) : step s = .refused (.illegalRequest e) := by
  simp [step, fetch, hf, fetchRequest, h]

/-- Settles O8, by the three rules of `step`. -/
theorem stepRunsDecodedOperation : Obligations.StepRunsDecodedOperation :=
  ⟨fun _ _ _ => step_of_request, fun _ _ _ => step_of_frame, fun _ => step_of_nothing⟩

/-- Settles O7: each kind of illegal request is refused by the decoder by its name, and so by the step. -/
theorem illegalRequestsRefused : Obligations.IllegalRequestsRefused := by
  refine ⟨fun s op rest hf hh hop => ?unassigned, fun s op b rest hf hh hop h0 h1 => ?badBool,
    fun s i n hf hl hw h0 hn hh => ?short⟩ <;> refine step_of_illegal hf ?_ (by simp) <;> rw [hh]
  case unassigned => exact decodeOperands_unassigned hop rest
  case badBool =>
    have hread := readBool_badBool h0 h1 rest
    obtain rfl | rfl := hop <;> simp [decodeRequest, decodeOperands, hread]
  case short => exact decodeRequest_take_encode hl hw h0 hn

/-! ## Frames -/

section
variable {cfg : Config}

/-- A frame's data, read under a command byte that no command before it in the table's order has. -/
theorem decodeFrame_encodeIn_append {i : Instr} (hl : i.level = .frame) (hd : cfg.frameCommands.Nodup)
    (rest : List Byte) : decodeFrame cfg (encodeIn cfg i ++ rest) = .ok (i, rest) := by
  have hne := List.nodup_reverse.2 hd
  simp only [Config.frameCommands, List.reverse_cons, List.reverse_nil, List.nil_append, List.cons_append,
    List.nodup_cons, List.mem_cons, not_or] at hne
  cases i with
  | caset | raset | ramwr | madctl | invon | invoff | swreset =>
    simp [decodeFrame, decodeFrameData, encodeIn, opcodeIn, operandBytes, rangeBytes, readU8, hne]
  | _ => cases hl

theorem readRange_eq_ok {mk : U16 → U16 → Instr} {bs rest : List Byte} {i : Instr}
    (h : (readThen (readU16 bs) fun a r => readThen (readU16 r) fun b r => .ok (mk a b, r)) = .ok (i, rest)) :
    ∃ a b, i = mk a b ∧ bs = rangeBytes a b ++ rest := by
  obtain ⟨a, r, ha, h⟩ := readThen_eq_ok h
  obtain ⟨b, r', hb, h⟩ := readThen_eq_ok h
  cases h
  exact ⟨a, b, rfl, by rw [readU16_eq_ok ha, readU16_eq_ok hb, rangeBytes, List.append_assoc]⟩

theorem decodeFrameData_eq_ok {cmd : Byte} {bs rest : List Byte} {i : Instr}
    (h : decodeFrameData cfg cmd bs = .ok (i, rest)) :
    i.level = .frame ∧ opcodeIn cfg i = cmd ∧ bs = operandBytes i ++ rest := by
  unfold decodeFrameData at h
  split_ifs at h with hcaset hraset hramwr hmadctl hinvon hinvoff hswreset
  · obtain ⟨a, b, rfl, hbs⟩ := readRange_eq_ok h
    exact ⟨rfl, hcaset.symm, hbs⟩
  · obtain ⟨a, b, rfl, hbs⟩ := readRange_eq_ok h
    exact ⟨rfl, hraset.symm, hbs⟩
  · cases h; exact ⟨rfl, hramwr.symm, rfl⟩
  · obtain ⟨m, r, hm, h⟩ := readThen_eq_ok h
    cases h
    exact ⟨rfl, hmadctl.symm, readU8_eq_ok hm⟩
  · cases h; exact ⟨rfl, hinvon.symm, rfl⟩
  · cases h; exact ⟨rfl, hinvoff.symm, rfl⟩
  · cases h; exact ⟨rfl, hswreset.symm, rfl⟩

theorem decodeFrame_eq_ok {bs rest : List Byte} {i : Instr} (h : decodeFrame cfg bs = .ok (i, rest)) :
    i.level = .frame ∧ bs = encodeIn cfg i ++ rest := by
  cases bs with
  | nil => cases h
  | cons cmd bs =>
    obtain ⟨hl, rfl, rfl⟩ := decodeFrameData_eq_ok h
    exact ⟨hl, rfl⟩

/-- Four data bytes are enough for every frame. -/
theorem decodeFrame_of_known {cmd : Byte} {bs : List Byte} (hc : cmd ∈ cfg.frameCommands) (hb : 4 ≤ bs.length) :
    ∃ i rest, decodeFrame cfg (cmd :: bs) = .ok (i, rest) := by
  match bs, hb with
  | b0 :: b1 :: b2 :: b3 :: r, _ =>
    simp only [Config.frameCommands, List.mem_cons, List.not_mem_nil, or_false] at hc
    simp only [decodeFrame, decodeFrameData, readU16, readU8, readThen_ok]
    split_ifs
    case neg => tauto
    all_goals exact ⟨_, _, rfl⟩

theorem decodeFrame_of_unknown {cmd : Byte} (hc : cmd ∉ cfg.frameCommands) (bs : List Byte) :
    decodeFrame cfg (cmd :: bs) = .error (.unknownFrame cmd) := by
  simp only [Config.frameCommands, List.mem_cons, List.not_mem_nil, or_false, not_or] at hc
  simp [decodeFrame, decodeFrameData, hc]

end

/-- Settles O3, by the cases of the frame instructions. -/
theorem framesRoundTrip : Obligations.FramesRoundTrip :=
  fun _ _ rest hl hd => decodeFrame_encodeIn_append hl hd rest

/-- Settles O4: what is read is the frame, what has a known command byte and four data bytes is read, nothing else is. -/
theorem decodedFramesAreRecords : Obligations.DecodedFramesAreRecords :=
  ⟨fun _ _ _ _ => decodeFrame_eq_ok, fun _ _ _ => decodeFrame_of_known, fun _ _ bs hc => decodeFrame_of_unknown hc bs⟩

/-! ## Serialized init entries and written-out words -/

/-- Settles O6: the fields of R97 are read one by one, the payload as long as its length byte says. -/
theorem initEntriesRoundTrip : Obligations.InitEntriesRoundTrip := by
  intro e rest hwf
  have hlen : e.payloadLength.toNat = e.payloadBytes.length := (eq_of_beq hwf).symm
  simp [decodeInitEntry, encodeInitEntry, readU8, hlen]

/-- Settles O1: the decoders compute the written-out words; the last one's command byte is the first of the table's order. -/
theorem writtenWordsDecode : Obligations.WrittenWordsDecode := by
  refine ⟨rfl, rfl, rfl, rfl, rfl, rfl, rfl, rfl, fun cfg => ?anyConfiguration⟩
  case anyConfiguration => exact if_pos rfl

end Sys2Proof.Machine

/-! PROOFS. What no instruction but its writers changes (spec/10_state.md R21, R27, R32, R65; spec/40_transaction.md R134). -/

namespace Sys2Proof.Machine

/-! ## The updates an instruction is made of -/

/-- The state updates of Machine/Effects.lean that the instructions share. -/
inductive Update where
  | opens | closes | command | bounds | fill | pixels | pixel | rotates | backlight | returns | begins

/-- The update keeps `P`. -/
def Update.Keeps (P : State → Prop) : Update → Prop
  | .opens => ∀ s, P s → P s.afterOpen
  | .closes => ∀ s, P s → P s.afterClose
  | .command => ∀ s c d k, P s → P (s.afterCommand c d k)
  | .bounds => ∀ s xa xb ya yb, P s → P (s.afterBounds xa xb ya yb)
  | .fill => ∀ s c n, P s → P (s.afterFill c n)
  | .pixels => ∀ s cs, P s → P (s.afterPixels cs)
  | .pixel => ∀ s c, P s → P (s.afterPixel c)
  | .rotates => ∀ s r, P s → P (s.rotated r)
  | .backlight => ∀ s l on, P s → P (s.afterBacklight l on)
  | .returns => ∀ (s : State) rs n, P s → P { s with results := s.results ++ rs, freeCount := n }
  | .begins => ∀ s v, P s → P (s.afterBegin v)

/-- The updates an instruction can make. -/
def updates : Instr → List Update
  | .begin _ => [.begins]
  | .startWrite => [.opens]
  | .endWrite => [.closes]
  | .sendCommand _ _ _ | .invertDisplay _ | .caset _ _ | .raset _ _ | .ramwr | .madctl _ | .invon | .invoff
  | .swreset => [.command]
  | .setAddrWindow _ _ _ _ => [.bounds]
  | .writeColorRepeated _ _ => [.fill]
  | .writePixel _ _ _ => [.bounds, .pixel]
  | .writePixels _ => [.pixels]
  | .writeFastHLine _ _ _ _ | .writeFastVLine _ _ _ _ | .writeFillRect _ _ _ _ _ => [.bounds, .fill]
  | .setRotation _ => [.rotates, .command]
  | .setBacklight _ | .setBacklightLevel _ => [.backlight]
  | .getWidth | .getHeight | .getRotation | .clipRect _ _ _ _ => [.returns]
  | .drawPixel _ _ _ => [.opens, .bounds, .pixel, .closes]
  | .drawFastHLine _ _ _ _ | .drawFastVLine _ _ _ _ | .fillRect _ _ _ _ _ | .fillScreen _ =>
    [.opens, .bounds, .fill, .closes]

section
variable {P : State → Prop}

theorem afterFillRect_keeps (h : ∀ u ∈ [Update.opens, .bounds, .fill, .closes], u.Keeps P) {s : State} (hs : P s)
    (x y w k : Int) (c : U16) : P (s.afterFillRect x y w k c) := by
  simp only [List.forall_mem_cons, Update.Keeps] at h
  obtain ⟨hopen, hbounds, hfill, hclose, -⟩ := h
  unfold State.afterFillRect
  split
  · exact hclose _ (hfill _ _ _ (hbounds _ _ _ _ _ (hopen _ hs)))
  · exact hs

theorem afterClip_keeps (h : Update.returns.Keeps P) {s : State} (hs : P s) (x y w k : Int) :
    P (s.afterClip x y w k) := by
  unfold State.afterClip
  split
  · exact h s _ s.freeCount hs
  · exact h s _ _ hs

/-- What each update of an instruction keeps, the instruction keeps: `Kept.effect` with begin, and every update the
instruction does not make, left out. -/
theorem effect_keeps {i : Instr} (h : ∀ u ∈ updates i, u.Keeps P) {s : State} (hs : P s) : P (effect i s) := by
  cases i with
  | drawFastHLine | drawFastVLine | fillRect | fillScreen => exact afterFillRect_keeps h hs _ _ _ _ _
  | clipRect => exact afterClip_keeps (List.forall_mem_singleton.1 h) hs _ _ _ _
  | getWidth | getHeight | getRotation => exact List.forall_mem_singleton.1 h s _ s.freeCount hs
  | startWrite | endWrite => exact List.forall_mem_singleton.1 h s hs
  | begin | writePixels => exact List.forall_mem_singleton.1 h s _ hs
  | writeColorRepeated | setBacklight | setBacklightLevel => exact List.forall_mem_singleton.1 h s _ _ hs
  | sendCommand | invertDisplay | caset | raset | ramwr | madctl | invon | invoff | swreset =>
    exact List.forall_mem_singleton.1 h s _ _ _ hs
  | setAddrWindow => exact List.forall_mem_singleton.1 h s _ _ _ _ hs
  | setRotation r =>
    simp only [updates, List.forall_mem_cons, Update.Keeps] at h
    obtain ⟨hrot, hcmd, -⟩ := h
    exact hcmd _ _ _ _ (hrot s _ hs)
  | writePixel =>
    simp only [updates, List.forall_mem_cons, Update.Keeps] at h
    obtain ⟨hbounds, hpixel, -⟩ := h
    dsimp only [effect]
    split
    · exact hs
    · exact hpixel _ _ (hbounds _ _ _ _ _ hs)
  | drawPixel =>
    simp only [updates, List.forall_mem_cons, Update.Keeps] at h
    obtain ⟨hopen, hbounds, hpixel, hclose, -⟩ := h
    dsimp only [effect]
    split
    · exact hs
    · exact hclose _ (hpixel _ _ (hbounds _ _ _ _ _ (hopen _ hs)))
  | writeFastHLine | writeFastVLine | writeFillRect =>
    simp only [updates, List.forall_mem_cons, Update.Keeps] at h
    obtain ⟨hbounds, hfill, -⟩ := h
    dsimp only [effect]
    split
    · exact hs
    · exact hfill _ _ _ (hbounds _ _ _ _ _ hs)

end

/-- The update never changes what `f` reads off the state. -/
def Update.Spares {α : Type} (f : State → α) (u : Update) : Prop := ∀ x, u.Keeps fun t => f t = x

/-- The frame rule. -/
theorem effect_spares {α : Type} {f : State → α} {i : Instr} (h : ∀ u ∈ updates i, u.Spares f) (s : State) :
    f (effect i s) = f s :=
  effect_keeps (fun u hu => h u hu (f s)) rfl

/-! ## Which updates write which registers -/

section
variable {i : Instr}

theorem begins_notMem_updates (hb : ∀ v, i ≠ .begin v) : .begins ∉ updates i := by
  cases i <;> simp_all [updates]

theorem rotates_notMem_updates (hr : ∀ r, i ≠ .setRotation r) : .rotates ∉ updates i := by
  cases i <;> simp_all [updates]

theorem backlight_notMem_updates (hb : ∀ b, i ≠ .setBacklight b) (hl : ∀ l, i ≠ .setBacklightLevel l) :
    .backlight ∉ updates i := by
  cases i <;> simp_all [updates]

theorem returns_notMem_updates (hc : ∀ x y w h, i ≠ .clipRect x y w h) (hw : i ≠ .getWidth) (hh : i ≠ .getHeight)
    (hr : i ≠ .getRotation) : .returns ∉ updates i := by
  cases i with
  | clipRect x y w h => exact absurd rfl (hc x y w h)
  | _ => simp_all [updates]

end

/-- The registers setRotation writes, but the cache (R230). -/
def orientation (s : State) : BitVec 2 × U16 × U16 × Byte × U16 × U16 :=
  (s.rotation, s.width, s.height, s.madctl, s.colStart, s.rowStart)

/-- The registers begin alone writes (R26, R33). -/
def bringUpRegisters (s : State) : U32 × InitPhase × Nat := (s.spiFrequency, s.initPhase, s.initPtr)

/-- The window cache (R27). -/
def cache (s : State) : U16 × U16 × U16 × U16 := (s.cachedX0, s.cachedX1, s.cachedY0, s.cachedY1)

/-- The fields no operation writes (log 1, log 7, log 8, log 11). -/
def surroundings (s : State) : Config × List Byte × List Byte × Option Nat := (s.cfg, s.hostIn, s.frameIn, s.stallAt)

theorem spares_surroundings (u : Update) : u.Spares surroundings := by
  cases u <;> simp [Update.Spares, Update.Keeps, surroundings]

theorem spares_orientation {u : Update} (hr : u ≠ .rotates) (hb : u ≠ .begins) : u.Spares orientation := by
  cases u <;> simp_all [Update.Spares, Update.Keeps, orientation]

theorem spares_bringUpRegisters {u : Update} (hb : u ≠ .begins) : u.Spares bringUpRegisters := by
  cases u <;> simp_all [Update.Spares, Update.Keeps, bringUpRegisters]

theorem spares_backlightLevel {u : Update} (hl : u ≠ .backlight) (hb : u ≠ .begins) : u.Spares State.backlightLevel := by
  cases u <;> simp_all [Update.Spares, Update.Keeps]

theorem spares_results {u : Update} (hr : u ≠ .returns) (hb : u ≠ .begins) : u.Spares State.results := by
  cases u <;> simp_all [Update.Spares, Update.Keeps]

theorem spares_freeCount {u : Update} (hr : u ≠ .returns) : u.Spares State.freeCount := by
  cases u <;> simp_all [Update.Spares, Update.Keeps]

theorem spares_cache {u : Update} (hw : u ≠ .bounds) (hr : u ≠ .rotates) (hb : u ≠ .begins) : u.Spares cache := by
  cases u <;> simp_all [Update.Spares, Update.Keeps, cache]

theorem spares_buf {u : Update} (hf : u ≠ .fill) (hp : u ≠ .pixels) : u.Spares State.buf := by
  cases u <;> simp_all [Update.Spares, Update.Keeps]

theorem spares_inTx {u : Update} (ho : u ≠ .opens) (hc : u ≠ .closes) (hb : u ≠ .begins) : u.Spares State.inTx := by
  cases u <;> simp_all [Update.Spares, Update.Keeps]

/-! ## The frame of every instruction -/

section
variable {i : Instr}

theorem effect_surroundings (i : Instr) (s : State) : surroundings (effect i s) = surroundings s :=
  effect_spares (fun u _ => spares_surroundings u) s

theorem effect_orientation (hr : ∀ r, i ≠ .setRotation r) (hb : ∀ v, i ≠ .begin v) (s : State) :
    orientation (effect i s) = orientation s :=
  effect_spares (fun _ hu => spares_orientation (ne_of_mem_of_not_mem hu (rotates_notMem_updates hr))
    (ne_of_mem_of_not_mem hu (begins_notMem_updates hb))) s

theorem effect_bringUpRegisters (hb : ∀ v, i ≠ .begin v) (s : State) :
    bringUpRegisters (effect i s) = bringUpRegisters s :=
  effect_spares (fun _ hu => spares_bringUpRegisters (ne_of_mem_of_not_mem hu (begins_notMem_updates hb))) s

theorem effect_backlightLevel (hb : ∀ v, i ≠ .begin v) (hs : ∀ b, i ≠ .setBacklight b)
    (hl : ∀ l, i ≠ .setBacklightLevel l) (s : State) : (effect i s).backlightLevel = s.backlightLevel :=
  effect_spares (fun _ hu => spares_backlightLevel (ne_of_mem_of_not_mem hu (backlight_notMem_updates hs hl))
    (ne_of_mem_of_not_mem hu (begins_notMem_updates hb))) s

theorem effect_results (hb : ∀ v, i ≠ .begin v) (hc : ∀ x y w h, i ≠ .clipRect x y w h) (hw : i ≠ .getWidth)
    (hh : i ≠ .getHeight) (hr : i ≠ .getRotation) (s : State) : (effect i s).results = s.results :=
  effect_spares (fun _ hu => spares_results (ne_of_mem_of_not_mem hu (returns_notMem_updates hc hw hh hr))
    (ne_of_mem_of_not_mem hu (begins_notMem_updates hb))) s

/-- The accessors return a value but take no free one. -/
theorem effect_freeCount (hc : ∀ x y w h, i ≠ .clipRect x y w h) (s : State) :
    (effect i s).freeCount = s.freeCount := by
  by_cases hr : Update.returns ∈ updates i
  · cases i with
    | getWidth | getHeight | getRotation => rfl
    | clipRect x y w h => exact absurd rfl (hc x y w h)
    | _ => simp [updates] at hr
  · exact effect_spares (fun _ hu => spares_freeCount (ne_of_mem_of_not_mem hu hr)) s

theorem effect_cache (h : ∀ u ∈ updates i, u ≠ .bounds ∧ u ≠ .rotates ∧ u ≠ .begins) (s : State) :
    cache (effect i s) = cache s :=
  effect_spares (fun u hu => spares_cache (h u hu).1 (h u hu).2.1 (h u hu).2.2) s

theorem effect_buf (h : ∀ u ∈ updates i, u ≠ .fill ∧ u ≠ .pixels) (s : State) : (effect i s).buf = s.buf :=
  effect_spares (fun u hu => spares_buf (h u hu).1 (h u hu).2) s

theorem effect_inTx (h : ∀ u ∈ updates i, u ≠ .opens ∧ u ≠ .closes ∧ u ≠ .begins) (s : State) :
    (effect i s).inTx = s.inTx :=
  effect_spares (fun u hu => spares_inTx (h u hu).1 (h u hu).2.1 (h u hu).2.2) s

end

/-! ## The obligations -/

/-- Settles O46, by the frame rule for each group of registers. -/
theorem controlRegisterFrame : Obligations.ControlRegisterFrame := by
  intro i s t h
  rw [exec_next h]
  have hsur := effect_surroundings i s
  simp only [surroundings, Prod.mk.injEq] at hsur
  obtain ⟨hcfg, hhost, hframe, hstall⟩ := hsur
  refine ⟨hcfg, hhost, hframe, hstall, fun hr hb => ?orientation, fun hb => ?bringUp,
    fun hb hc hw hh hr => effect_results hb hc hw hh hr s, fun hc => effect_freeCount hc s⟩
  case orientation => simpa only [orientation, Prod.mk.injEq] using effect_orientation hr hb s
  case bringUp =>
    have hreg := effect_bringUpRegisters hb s
    simp only [bringUpRegisters, Prod.mk.injEq] at hreg
    obtain ⟨hfreq, hphase, hptr⟩ := hreg
    exact ⟨hfreq, hphase, hptr, fun hs hl => effect_backlightLevel hb hs hl s⟩

/-- None of these instructions sets a window. -/
theorem updates_of_windowless {i : Instr}
    (h : i = .startWrite ∨ i = .endWrite ∨ (∃ c d p, i = .sendCommand c d p) ∨ (∃ c n, i = .writeColorRepeated c n) ∨
      (∃ cs, i = .writePixels cs) ∨ (∃ b, i = .invertDisplay b) ∨ (∃ b, i = .setBacklight b) ∨
      (∃ l, i = .setBacklightLevel l) ∨ i = .getWidth ∨ i = .getHeight ∨ i = .getRotation ∨
      (∃ x y w h, i = .clipRect x y w h) ∨ i.level = .frame) :
    ∀ u ∈ updates i, u ≠ .bounds ∧ u ≠ .rotates ∧ u ≠ .begins := by
  cases i <;> simp_all [updates, Instr.level]

/-- Settles O47, by the frame rule for the cache. -/
theorem windowCacheFrame : Obligations.WindowCacheFrame := by
  intro i s t hi h
  rw [exec_next h]
  simpa only [cache, Prod.mk.injEq] using effect_cache (updates_of_windowless hi) s

/-! ### BUF -/

theorem paintBuf_getElem_of_le {b : Vector U16 64} {n j : Nat} (c : U16) (hj : j < 64) (h : n ≤ j) :
    (paintBuf b n c)[j] = b[j] := by
  rw [paintBuf, Vector.getElem_ofFn, if_neg (Nat.not_lt.2 h)]

theorem afterFill_buf_getElem_of_le (s : State) {n j : Nat} (c : U16) (hj : j < 64) (h : n ≤ j) :
    (s.afterFill c n).buf[j] = s.buf[j] := by
  by_cases h0 : n = 0
  · simp [h0]
  · simp [h0, paintBuf_getElem_of_le c hj h]

theorem afterPixels_buf_getElem_of_le (s : State) {cs : List U16} {j : Nat} (hj : j < 64) (h : cs.length ≤ j) :
    (s.afterPixels cs).buf[j] = s.buf[j] := by
  by_cases h0 : cs = []
  · simp [h0]
  · simp only [afterPixels_buf, if_neg h0, streamBuf, Vector.getElem_ofFn]
    exact List.getD_eq_default _ _ (by omega)

/-- Settles O48: the streams through BUF slot by slot, every other instruction by the frame rule. -/
theorem chunkBufferFrame : Obligations.ChunkBufferFrame := by
  intro i s t h
  rw [exec_next h]
  refine ⟨?fill, ?hline, ?vline, ?rect, ?pixels, ?others⟩
  case fill =>
    rintro c n rfl j hj hn
    exact afterFill_buf_getElem_of_le s c hj hn
  case hline =>
    rintro x y w c rfl j hj hw
    dsimp only [effect]
    split
    · rfl
    · exact afterFill_buf_getElem_of_le _ c hj (by omega)
  case vline =>
    rintro x y k c rfl j hj hk
    dsimp only [effect]
    split
    · rfl
    · exact afterFill_buf_getElem_of_le _ c hj (by omega)
  case rect =>
    rintro x y w k c rfl j hj hwk
    dsimp only [effect]
    split
    · rfl
    · exact afterFill_buf_getElem_of_le _ c hj (by omega)
  case pixels =>
    rintro cs rfl j hj hn
    exact afterPixels_buf_getElem_of_le s hj hn
  case others =>
    intro hfill hhline hvline hrect hpixels hdh hdv hdr hds
    refine effect_buf ?_ s
    cases i with
    | writeColorRepeated c n => exact absurd rfl (hfill c n)
    | writeFastHLine x y w c => exact absurd rfl (hhline x y w c)
    | writeFastVLine x y k c => exact absurd rfl (hvline x y k c)
    | writeFillRect x y w k c => exact absurd rfl (hrect x y w k c)
    | writePixels cs => exact absurd rfl (hpixels cs)
    | drawFastHLine x y w c => exact absurd rfl (hdh x y w c)
    | drawFastVLine x y k c => exact absurd rfl (hdv x y k c)
    | fillRect x y w k c => exact absurd rfl (hdr x y w k c)
    | fillScreen c => exact absurd rfl (hds c)
    | _ => simp [updates]

/-! ### The gate -/

theorem bracketedBy_inTx (s : State) (f : State → State) : (s.bracketedBy f).inTx = false := afterClose_inTx _

theorem afterFillRect_idle_or_same (s : State) (x y w h : Int) (c : U16) :
    (s.afterFillRect x y w h c).inTx = false ∨ s.afterFillRect x y w h c = s := by
  unfold State.afterFillRect
  split
  · exact .inl (bracketedBy_inTx s _)
  · exact .inr rfl

theorem effect_drawPixel_idle_or_same (s : State) (x y c : U16) :
    (effect (.drawPixel x y c) s).inTx = false ∨ effect (.drawPixel x y c) s = s := by
  dsimp only [effect]
  split
  · exact .inr rfl
  · exact .inl (bracketedBy_inTx s _)

/-- Settles O49: the gate's writers one by one, every other instruction by the frame rule. -/
theorem gateFrame : Obligations.GateFrame := by
  intro i s t h
  rw [exec_next h]
  refine ⟨?start, ?finish, ?begin, ?front, ?others⟩
  case start => rintro rfl; exact afterOpen_inTx s
  case finish => rintro rfl; exact afterClose_inTx s
  case begin => rintro ⟨v, rfl⟩; exact afterBegin_inTx s v
  case front =>
    rintro (⟨x, y, c, rfl⟩ | ⟨x, y, w, c, rfl⟩ | ⟨x, y, k, c, rfl⟩ | ⟨x, y, w, k, c, rfl⟩ | ⟨c, rfl⟩)
    · exact effect_drawPixel_idle_or_same s x y c
    all_goals exact afterFillRect_idle_or_same s _ _ _ _ c
  case others =>
    intro hstart hend hbegin hpixel hhline hvline hrect hscreen
    refine effect_inTx ?_ s
    cases i with
    | startWrite => exact absurd rfl hstart
    | endWrite => exact absurd rfl hend
    | begin v => exact absurd rfl (hbegin v)
    | drawPixel x y c => exact absurd rfl (hpixel x y c)
    | drawFastHLine x y w c => exact absurd rfl (hhline x y w c)
    | drawFastVLine x y k c => exact absurd rfl (hvline x y k c)
    | fillRect x y w k c => exact absurd rfl (hrect x y w k c)
    | fillScreen c => exact absurd rfl (hscreen c)
    | _ => simp [updates]

/-! ## Invariants of every step -/

theorem noOffset_kept : Kept State.noOffset := by
  constructor <;> simp [State.noOffset]

/-- Settles O53: only setRotation and begin write the offsets, and they write 0. -/
theorem stepKeepsZeroOffsets : Obligations.StepKeepsZeroOffsets := fun _ _ h hstep =>
  step_keeps (fun _ _ _ => id) (noOffset_kept.effect fun _ _ _ => ⟨rfl, rfl⟩) h hstep

/-- What `s` has logged, its trace and its returned values, stands in front of what `t` has. -/
def LogsBefore (s t : State) : Prop := s.trace <+: t.trace ∧ s.results <+: t.results

theorem LogsBefore.trans_append {s t u : State} (h : LogsBefore s t) {es : List Event} {rs : List Result}
    (ht : u.trace = t.trace ++ es) (hr : u.results = t.results ++ rs) : LogsBefore s u := by
  rw [LogsBefore, ht, hr]
  exact ⟨h.1.trans (List.prefix_append _ _), h.2.trans (List.prefix_append _ _)⟩

theorem logsBefore_kept (s : State) : Kept (LogsBefore s) where
  afterOpen t h := h.trans_append (afterOpen_trace t) (rs := []) (by simp)
  afterClose t h := h.trans_append (afterClose_trace t) (rs := []) (by simp)
  afterCommand t c d k h := h.trans_append (afterCommand_trace t c d k) (rs := []) (by simp)
  afterBounds t xa xb ya yb h := h.trans_append (afterBounds_trace t xa xb ya yb) (rs := []) (by simp)
  afterFill t c n h := h.trans_append (afterFill_trace t c n) (rs := []) (by simp)
  afterPixels t cs h := h.trans_append (afterPixels_trace t cs) (rs := []) (by simp)
  afterPixel t c h := h.trans_append (afterPixel_trace t c) (rs := []) (by simp)
  rotated _ _ := id
  afterBacklight t l on h := h.trans_append (afterBacklight_trace t l on) (rs := []) (by simp)
  returned t _ _ h := h.trans_append (es := []) (by simp) rfl

/-- Settles O54: every update appends. -/
theorem stepOnlyAppends : Obligations.StepOnlyAppends := by
  intro s t hstep
  have hbegin : ∀ u v, LogsBefore s u → LogsBefore s (u.afterBegin v) := fun u v h =>
    h.trans_append (afterBegin_trace u v) (afterBegin_results u v)
  obtain ⟨⟨es, hes⟩, rs, hrs⟩ : LogsBefore s t :=
    step_keeps (fun _ _ _ => id) ((logsBefore_kept s).effect hbegin) ⟨List.prefix_rfl, List.prefix_rfl⟩ hstep
  exact ⟨⟨es, hes.symm⟩, rs, hrs.symm⟩

/-! ## The environment plays no part in what an instruction's rule gives (R61) -/

/-- The state under another environment. -/
def withStall (k : Option Nat) (s : State) : State := { s with stallAt := k }

section
variable (k : Option Nat) (s : State)

@[simp] theorem afterOpen_withStall : (withStall k s).afterOpen = withStall k s.afterOpen := by
  unfold State.afterOpen withStall; split <;> rfl

@[simp] theorem afterClose_withStall : (withStall k s).afterClose = withStall k s.afterClose := by
  unfold State.afterClose withStall; split <;> rfl

@[simp] theorem afterWindow_withStall (x y w h : Int) :
    (withStall k s).afterWindow x y w h = withStall k (s.afterWindow x y w h) := rfl

@[simp] theorem afterFill_withStall (c : U16) (n : Nat) :
    (withStall k s).afterFill c n = withStall k (s.afterFill c n) := by
  unfold State.afterFill; split <;> rfl

@[simp] theorem afterPixels_withStall (cs : List U16) :
    (withStall k s).afterPixels cs = withStall k (s.afterPixels cs) := by
  unfold State.afterPixels; split <;> rfl

@[simp] theorem afterPixel_withStall (c : U16) : (withStall k s).afterPixel c = withStall k (s.afterPixel c) := rfl

@[simp] theorem afterBacklight_withStall (l : Byte) (on : Bool) :
    (withStall k s).afterBacklight l on = withStall k (s.afterBacklight l on) := by
  unfold State.afterBacklight withStall; split <;> simp_all

@[simp] theorem afterFillRect_withStall (x y w h : Int) (c : U16) :
    (withStall k s).afterFillRect x y w h c = withStall k (s.afterFillRect x y w h c) := by
  have hcanvas : (withStall k s).width = s.width ∧ (withStall k s).height = s.height := ⟨rfl, rfl⟩
  unfold State.afterFillRect
  rw [hcanvas.1, hcanvas.2]
  split
  · simp [State.bracketedBy]
  · rfl

@[simp] theorem afterClip_withStall (x y w h : Int) :
    (withStall k s).afterClip x y w h = withStall k (s.afterClip x y w h) := by
  have hcanvas : (withStall k s).width = s.width ∧ (withStall k s).height = s.height := ⟨rfl, rfl⟩
  unfold State.afterClip
  rw [hcanvas.1, hcanvas.2]
  split <;> rfl

theorem outOfCanvas_withStall (x y : Int) : outOfCanvas x y (withStall k s) = outOfCanvas x y s := rfl

end

theorem effect_withStall (i : Instr) (k : Option Nat) (s : State) :
    effect i (withStall k s) = withStall k (effect i s) := by
  cases i with
  | begin | sendCommand | invertDisplay | caset | raset | ramwr | madctl | invon | invoff | swreset | setRotation
  | getWidth | getHeight | getRotation | setAddrWindow => rfl
  | startWrite => exact afterOpen_withStall k s
  | endWrite => exact afterClose_withStall k s
  | writeColorRepeated c n => exact afterFill_withStall k s c _
  | writePixels cs => exact afterPixels_withStall k s cs
  | setBacklight | setBacklightLevel => exact afterBacklight_withStall k s _ _
  | drawFastHLine | drawFastVLine | fillRect | fillScreen => exact afterFillRect_withStall k s _ _ _ _ _
  | clipRect => exact afterClip_withStall k s _ _ _ _
  | writePixel x y c =>
    exact (apply_ite (withStall k) (outOfCanvas x.toInt y.toInt s = true) s
      ((s.afterWindow x.toInt y.toInt 1 1).afterPixel c)).symm
  | drawPixel | writeFastHLine | writeFastVLine | writeFillRect =>
    simp only [effect, outOfCanvas_withStall, State.bracketedBy, afterOpen_withStall, afterWindow_withStall,
      afterPixel_withStall, afterFill_withStall, afterClose_withStall, apply_ite (withStall k)]

theorem needsCompletion_iff (e : Event) : needsCompletion e = true ↔ ∀ n, e ≠ .fault n := by
  have : Nonempty FaultName := ⟨.idleStream⟩
  cases e <;> simp [needsCompletion]

/-- When an operation hangs (R61): the stalled index is that of an interface event it emits. -/
theorem stalls_iff {s : State} {k : Nat} (hk : s.stallAt = some k) (t : State) :
    stalls s t = true ↔ s.trace.length ≤ k ∧ ∃ e, t.trace[k]? = some e ∧ ∀ n, e ≠ .fault n := by
  unfold stalls
  rw [hk]
  dsimp only
  split
  · next hlt => simp [Nat.not_le.2 hlt]
  · next hge =>
    cases ht : t.trace[k]? with
    | none => simp
    | some e => simp [needsCompletion_iff, Nat.not_lt.1 hge]

/-- Settles O60: the rule's state is the same in every environment, and `finish` hangs exactly on a stalled event. -/
theorem stalledEventHangs : Obligations.StalledEventHangs := by
  intro i s t k hk h
  have ht : t = withStall none (effect i s) := by
    rw [exec_next h]; exact effect_withStall i none s
  have hts : { t with stallAt := some k } = effect i s := by
    have hsur := congrArg (·.2.2.2) (effect_surroundings i s)
    rw [ht]; rw [← hk, ← show (effect i s).stallAt = s.stallAt from hsur]; rfl
  have hiff := stalls_iff hk (effect i s)
  rw [← show t.trace = (effect i s).trace by rw [ht]; rfl] at hiff
  rw [← hiff, hts, exec_eq, finish]
  exact ⟨fun hstall => if_pos hstall, fun hgo => if_neg hgo⟩

end Sys2Proof.Machine

/-! PROOFS. What every step keeps of the trace (spec/40_transaction.md R132, spec/20_memory.md R60 and R62,
spec/60_exceptions.md R282, spec/70_reset_and_hazards.md R316): one induction over the blocks of events the operations append,
and five laws. -/

namespace Sys2Proof.Machine

/-! ## A law of the trace, block by block -/

/-- A law `Q` of the gate, the fault bit and the trace that every block of events keeps. Chip-select is driven HIGH with the
gate where `free` allows it: only begin does so outside a close (R163). -/
structure TraceLaw (cfg : Config) (free : Bool → Prop) (Q : Bool → Bool → List Event → Prop) : Prop where
  opens : ∀ f t freq, Q false f t →
    Q true f (t ++ [.busOpen freq cfg.bitOrder cfg.spiMode, .pinSet cfg.pinCs .low])
  closes : ∀ f t, Q true f t → Q false f (t ++ closeEvents cfg)
  command : ∀ f t c, Q true f t →
    Q true f (t ++ [.pinSet cfg.pinDc cfg.lvlCmd, .busWriteByte c, .pinSet cfg.pinDc cfg.lvlData])
  bytes : ∀ g f t bs, (g = true ∨ f = true) → bs ≠ [] → Q g f t → Q g f (t ++ [.busWriteBytes bs])
  dataMode : ∀ g f t, Q g f t → Q g f (t ++ [.pinSet cfg.pinDc cfg.lvlData])
  faults : ∀ f t, Q false f t → Q false true (t ++ [.fault .idleStream])
  sleeps : ∀ g f t ms, ms ≠ 0 → Q g f t → Q g f (t ++ [.sleep ms])
  drives : ∀ g f t p l, (cfg.pinRst = some p ∨ cfg.pinBl = some p) → Q g f t → Q g f (t ++ [.pinSet p l])
  configures : ∀ g f t p, Q g f t → Q g f (t ++ [.pinConfigOut p])
  inits : ∀ g f t a b, Q g f t → Q g f (t ++ [.busInit a b])
  deselects : ∀ g f t, free g → Q g f t → Q g f (t ++ [.pinSet cfg.pinCs .high])

/-- A block that is there or not. -/
theorem append_ite {c : Prop} [Decidable c] {P P' : List Event → Prop} {t x y : List Event} (h : P t)
    (hx : c → P t → P' (t ++ x)) (hy : ¬c → P t → P' (t ++ y)) : P' (t ++ if c then x else y) := by
  split
  · next hc => exact hx hc h
  · next hc => exact hy hc h

/-- An optional pin set up (R150). -/
def optionalPinEvents (o : Option PinId) (lvl : Level) : List Event :=
  match o with
  | none => []
  | some p => [.pinConfigOut p, .pinSet p lvl]

theorem configureEvents_eq (cfg : Config) :
    configureEvents cfg = [.pinConfigOut cfg.pinDc, .pinConfigOut cfg.pinCs, .pinSet cfg.pinCs .high] ++
      optionalPinEvents cfg.pinRst .high ++ optionalPinEvents cfg.pinBl .low ++
      [.busInit cfg.pinSclk cfg.pinMosi] := rfl

theorem delayOf_ne_zero {ms : U16} (h : ms ≠ 0) : delayOf ms ≠ 0 := by
  unfold delayOf
  bv_omega

section
variable {cfg : Config} {free : Bool → Prop} {Q : Bool → Bool → List Event → Prop} (k : TraceLaw cfg free Q)

include k

theorem TraceLaw.frame {f : Bool} {t : List Event} (c : Byte) (d : List Byte) (ms : U16) (h : Q true f t) :
    Q true f (t ++ frameEvents cfg c d ms) := by
  rw [frameEvents, ← List.append_assoc, ← List.append_assoc]
  have hnil : ∀ {t}, Q true f t → Q true f (t ++ []) := fun h => by rwa [List.append_nil]
  refine append_ite (P := Q true f) (append_ite (P := Q true f) (k.command f t c h) ?_ ?_) ?_ ?_
  · exact fun _ => hnil
  · exact fun hd h => k.bytes _ _ _ _ (.inl rfl) hd h
  · exact fun _ => hnil
  · exact fun hms h => k.sleeps _ _ _ _ (delayOf_ne_zero hms) h

theorem TraceLaw.commandEvents {f : Bool} {t : List Event} {s : State} (hc : s.cfg = cfg) (c : Byte) (d : List Byte)
    (ms : U16) (h : Q s.inTx f t) : Q s.inTx f (t ++ Machine.commandEvents s c d ms) := by
  unfold Machine.commandEvents
  subst hc
  cases hg : s.inTx with
  | true => exact k.frame c d ms (hg ▸ h)
  | false => simpa [openEvents] using k.closes _ _ (k.frame c d ms (k.opens _ _ s.spiFrequency (hg ▸ h)))

theorem TraceLaw.windowEvents {f : Bool} {t : List Event} {s : State} (hc : s.cfg = cfg) (xa xb ya yb : U16)
    (h : Q s.inTx f t) : Q s.inTx f (t ++ Machine.windowEvents s xa xb ya yb) := by
  have hcmd : ∀ {t} c d, Q s.inTx f t → Q s.inTx f (t ++ Machine.commandEvents s c d 0) :=
    fun c d h => k.commandEvents hc c d 0 h
  have hnil : ∀ {t}, Q s.inTx f t → Q s.inTx f (t ++ []) := fun h => by rwa [List.append_nil]
  rw [Machine.windowEvents, ← List.append_assoc, ← List.append_assoc]
  refine hcmd _ _ (append_ite (P := Q s.inTx f) (append_ite (P := Q s.inTx f) h ?_ ?_) ?_ ?_)
  · exact fun _ => hcmd _ _
  · exact fun _ => hnil
  · exact fun _ => hcmd _ _
  · exact fun _ => hnil

theorem TraceLaw.streamHead {t : List Event} {s : State} (hc : s.cfg = cfg) (h : Q s.inTx s.faultIdleStream t) :
    Q s.inTx (faultAfterStream s) (t ++ Machine.streamHead s) := by
  unfold Machine.streamHead faultAfterStream
  subst hc
  cases hg : s.inTx with
  | true => simpa using k.dataMode _ _ _ (hg ▸ h)
  | false => simpa using k.dataMode _ _ _ (k.faults _ _ (hg ▸ h))

/-- The chunks of a stream come after its head, so the gate is Open or the fault recorded. -/
theorem TraceLaw.chunks {t : List Event} {s : State} {es : List Event}
    (hes : ∀ e ∈ es, ∃ bs, e = .busWriteBytes bs ∧ bs ≠ []) (h : Q s.inTx (faultAfterStream s) t) :
    Q s.inTx (faultAfterStream s) (t ++ es) := by
  have hgo : s.inTx = true ∨ faultAfterStream s = true := by
    cases hg : s.inTx <;> simp [faultAfterStream, hg]
  induction es generalizing t with
  | nil => simpa using h
  | cons e es ih =>
    obtain ⟨⟨bs, rfl, hbs⟩, hrest⟩ := List.forall_mem_cons.1 hes
    simpa using ih hrest (k.bytes _ _ _ _ hgo hbs h)

/-! ### The events of begin -/

theorem TraceLaw.optionalPin {g f : Bool} {t : List Event} {o : Option PinId} (lvl : Level)
    (ho : ∀ p, o = some p → cfg.pinRst = some p ∨ cfg.pinBl = some p) (h : Q g f t) :
    Q g f (t ++ optionalPinEvents o lvl) := by
  cases o with
  | none => rwa [optionalPinEvents, List.append_nil]
  | some p => simpa [optionalPinEvents] using k.drives g f _ p lvl (ho p rfl) (k.configures g f t p h)

theorem TraceLaw.configureEvents {g f : Bool} {t : List Event} (hg : free g) (h : Q g f t) :
    Q g f (t ++ Machine.configureEvents cfg) := by
  have hpins := k.deselects g f _ hg (k.configures g f _ cfg.pinCs (k.configures g f t cfg.pinDc h))
  have hopt := k.optionalPin .low (fun _ => .inr) (k.optionalPin .high (fun _ => .inl) hpins)
  simpa [configureEvents_eq] using k.inits g f _ cfg.pinSclk cfg.pinMosi hopt

theorem TraceLaw.resetEvents {f : Bool} {t : List Event} {s : State} (hc : s.cfg = cfg) (h : Q s.inTx f t) :
    Q s.inTx f (t ++ Machine.resetEvents s) := by
  unfold Machine.resetEvents
  subst hc
  cases hp : s.cfg.pinRst with
  | none => exact k.commandEvents rfl _ _ _ h
  | some p =>
    have pulse : ∀ {t} l ms, ms ≠ 0 → Q s.inTx f t → Q s.inTx f (t ++ [.pinSet p l, .sleep ms]) := fun l ms hms h => by
      simpa using k.sleeps _ _ _ _ hms (k.drives _ _ _ p l (.inl hp) h)
    simpa using pulse .high 120 (by decide) (pulse .low 20 (by decide) (pulse .high 10 (by decide) h))

theorem TraceLaw.entries {f : Bool} {t : List Event} (es : List InitEntry) (h : Q true f t) :
    Q true f (t ++ es.flatMap fun e => frameEvents cfg e.commandByte e.payloadBytes e.postDelayMs) := by
  induction es generalizing t with
  | nil => rwa [List.flatMap_nil, List.append_nil]
  | cons e es ih => simpa using ih (k.frame e.commandByte e.payloadBytes e.postDelayMs h)

theorem TraceLaw.beginEvents {f : Bool} {t : List Event} {s : State} (hc : s.cfg = cfg) (hg : free s.inTx)
    (h : Q s.inTx f t) : Q false f (t ++ Machine.beginEvents s) := by
  subst hc
  have hreset := k.resetEvents rfl (k.configureEvents hg h)
  have hopen : Q true f (t ++ Machine.configureEvents s.cfg ++ Machine.resetEvents s ++
      if s.inTx then [] else openEvents s) := by
    cases hg : s.inTx with
    | true => simpa [hg] using hreset
    | false => exact k.opens _ _ _ (hg ▸ hreset)
  have hframes := k.frame s.cfg.cmdMadctl [madctlEntry s.cfg s.rotation] 0 (k.entries (replayed s.cfg) hopen)
  have hclose := k.closes _ _ hframes
  rw [Machine.beginEvents, replayEvents]
  cases hp : s.cfg.pinBl with
  | none => simpa using hclose
  | some p => simpa using k.drives _ _ _ p .high (.inr hp) hclose

end

/-! ### The chunks of a stream hold bytes -/

theorem solidChunks_hold (c : U16) (n : Nat) :
    ∀ e ∈ solidChunks c n, ∃ bs, e = Event.busWriteBytes bs ∧ bs ≠ [] := by
  have hchunk : ∀ m, m ≠ 0 → ∃ bs, solidChunk c m = .busWriteBytes bs ∧ bs ≠ [] := fun m hm =>
    ⟨_, rfl, by simp [pixelBytes, bytesU16, hm]⟩
  intro e he
  obtain he | he := List.mem_append.1 he
  · rw [List.eq_of_mem_replicate he]
    exact hchunk 64 (by decide)
  · split at he
    · cases he
    · next h0 =>
      rw [List.mem_singleton.1 he]
      exact hchunk _ h0

theorem hostChunkEvents_hold (cs : List U16) :
    ∀ e ∈ hostChunkEvents cs, ∃ bs, e = Event.busWriteBytes bs ∧ bs ≠ [] := by
  intro e he
  obtain ⟨j, hj, rfl⟩ := List.mem_map.1 he
  have hlt : 64 * j < cs.length := by have := List.mem_range.1 hj; omega
  refine ⟨_, rfl, List.ne_nil_of_length_pos ?_⟩
  obtain ⟨c, r, hr⟩ : ∃ c r, (cs.drop (64 * j)).take 64 = c :: r :=
    List.exists_cons_of_length_pos (by rw [List.length_take, List.length_drop]; omega)
  simp [hr, pixelBytes, bytesU16]

/-! ### The law along an instruction and a step -/

section
variable {cfg : Config} {free : Bool → Prop} {Q : Bool → Bool → List Event → Prop}

/-- The law of a state's gate, fault bit and trace. -/
def Lawful (cfg : Config) (Q : Bool → Bool → List Event → Prop) (s : State) : Prop :=
  s.cfg = cfg ∧ Q s.inTx s.faultIdleStream s.trace

theorem TraceLaw.kept (k : TraceLaw cfg free Q) : Kept (Lawful cfg Q) where
  afterOpen s h := by
    obtain ⟨rfl, h⟩ := h
    cases hg : s.inTx with
    | true => rw [afterOpen_of_open hg]; exact ⟨rfl, h⟩
    | false => exact ⟨by simp, by simpa [hg, openEvents] using k.opens _ _ s.spiFrequency (hg ▸ h)⟩
  afterClose s h := by
    obtain ⟨rfl, h⟩ := h
    cases hg : s.inTx with
    | true => exact ⟨by simp, by simpa [hg] using k.closes _ _ (hg ▸ h)⟩
    | false => rw [afterClose_of_idle hg]; exact ⟨rfl, h⟩
  afterCommand _ c d ms h := ⟨h.1, k.commandEvents h.1 c d ms h.2⟩
  afterBounds _ xa xb ya yb h := ⟨h.1, k.windowEvents h.1 xa xb ya yb h.2⟩
  afterFill s c n h := by
    by_cases hn : n = 0
    · simpa [State.afterFill, hn] using h
    · have hlaw := k.chunks (solidChunks_hold c n) (k.streamHead h.1 h.2)
      exact ⟨by simpa using h.1, by simpa [hn] using hlaw⟩
  afterPixels s cs h := by
    by_cases hcs : cs = []
    · simpa [State.afterPixels, hcs] using h
    · have hlaw := k.chunks (hostChunkEvents_hold cs) (k.streamHead h.1 h.2)
      exact ⟨by simpa using h.1, by simpa [hcs] using hlaw⟩
  afterPixel s c h := by
    have hlaw := k.chunks (es := [.busWriteBytes (pixelBytes c)]) (by simp [pixelBytes, bytesU16]) (k.streamHead h.1 h.2)
    exact ⟨h.1, by simpa using hlaw⟩
  rotated _ _ := id
  afterBacklight s l on h := by
    obtain ⟨rfl, h⟩ := h
    cases hp : s.cfg.pinBl with
    | none => rw [afterBacklight_of_no_pin hp]; exact ⟨rfl, h⟩
    | some p => rw [afterBacklight_of_pin hp]; exact ⟨rfl, k.drives _ _ _ p _ (.inr hp) h⟩
  returned _ _ _ := id

theorem TraceLaw.afterBegin (k : TraceLaw cfg free Q) {s : State} (v : U32) (hg : free s.inTx) (h : Lawful cfg Q s) :
    Lawful cfg Q (s.afterBegin v) :=
  ⟨h.1, k.beginEvents (s := s.withSpeed v) h.1 hg h.2⟩

end

end Sys2Proof.Machine

/-! PROOFS. The laws every step keeps (O14, O55 to O58). -/

namespace Sys2Proof.Machine

/-! ## The rule for a step -/

/-- A law free in every gate, every step keeps. -/
theorem TraceLaw.step {cfg : Config} {Q : Bool → Bool → List Event → Prop} (k : TraceLaw cfg (fun _ => True) Q)
    {s t : State} (h : Lawful cfg Q s) (hstep : step s = .next t) : Lawful cfg Q t :=
  step_keeps (fun _ _ _ => id) (k.kept.effect fun _ v => k.afterBegin v trivial) h hstep

/-! ## Event forms (R60) and the fault's record (R13, R36) -/

theorem eventForms_law (cfg : Config) :
    TraceLaw cfg (fun _ => True) fun _ _ t => ∀ e ∈ t, eventWf e = true where
  opens _ _ _ h := List.forall_mem_append.2 ⟨h, by simp [eventWf]⟩
  closes _ _ h := List.forall_mem_append.2 ⟨h, by simp [closeEvents, eventWf]⟩
  command _ _ _ h := List.forall_mem_append.2 ⟨h, by simp [eventWf]⟩
  bytes _ _ _ _ _ hbs h := List.forall_mem_append.2 ⟨h, by simpa [eventWf] using hbs⟩
  dataMode _ _ _ h := List.forall_mem_append.2 ⟨h, by simp [eventWf]⟩
  faults _ _ h := List.forall_mem_append.2 ⟨h, by simp [eventWf]⟩
  sleeps _ _ _ _ hms h := List.forall_mem_append.2 ⟨h, by simpa [eventWf] using hms⟩
  drives _ _ _ _ _ _ h := List.forall_mem_append.2 ⟨h, by simp [eventWf]⟩
  configures _ _ _ _ h := List.forall_mem_append.2 ⟨h, by simp [eventWf]⟩
  inits _ _ _ _ _ h := List.forall_mem_append.2 ⟨h, by simp [eventWf]⟩
  deselects _ _ _ _ h := List.forall_mem_append.2 ⟨h, by simp [eventWf]⟩

/-- Settles O55, by the law of event forms. -/
theorem stepKeepsEventForms : Obligations.StepKeepsEventForms :=
  fun s _ h hstep => ((eventForms_law s.cfg).step ⟨rfl, h⟩ hstep).2

/-- Only the fault's own block enters its event, and it sets the bit. -/
theorem faultRecord_law (cfg : Config) :
    TraceLaw cfg (fun _ => True) fun _ f t => f = true ↔ Event.fault .idleStream ∈ t where
  opens _ _ _ h := by simpa using h
  closes _ _ h := by simpa [closeEvents] using h
  command _ _ _ h := by simpa using h
  bytes _ _ _ _ _ _ h := by simpa using h
  dataMode _ _ _ h := by simpa using h
  faults _ _ _ := by simp
  sleeps _ _ _ _ _ h := by simpa using h
  drives _ _ _ _ _ _ h := by simpa using h
  configures _ _ _ _ h := by simpa using h
  inits _ _ _ _ _ h := by simpa using h
  deselects _ _ _ _ h := by simpa using h

theorem faultSticky_law (cfg : Config) : TraceLaw cfg (fun _ => True) fun _ f _ => f = true where
  opens _ _ _ := id
  closes _ _ := id
  command _ _ _ := id
  bytes _ _ _ _ _ _ := id
  dataMode _ _ _ := id
  faults _ _ _ := rfl
  sleeps _ _ _ _ _ := id
  drives _ _ _ _ _ _ := id
  configures _ _ _ _ := id
  inits _ _ _ _ _ := id
  deselects _ _ _ _ := id

/-- Settles O56, by the law of the fault's record and the law that the bit is sticky. -/
theorem stepKeepsFaultRecord : Obligations.StepKeepsFaultRecord := fun s _ h hstep =>
  ⟨((faultRecord_law s.cfg).step ⟨rfl, h⟩ hstep).2, fun hf => ((faultSticky_law s.cfg).step ⟨rfl, hf⟩ hstep).2⟩

/-! ## The level of a pin (R38) -/

/-- The level of pin `p` after the events, from level `l`. -/
def levelFrom (p : PinId) : Option Level → List Event → Option Level
  | l, [] => l
  | l, .pinSet q v :: es => levelFrom p (if q = p then some v else l) es
  | l, .busInit _ _ :: es | l, .busOpen _ _ _ :: es | l, .busClose :: es | l, .busWriteByte _ :: es
  | l, .busWriteBytes _ :: es | l, .pinConfigOut _ :: es | l, .sleep _ :: es | l, .fault _ :: es => levelFrom p l es

theorem levelFrom_append (p : PinId) (l : Option Level) (es fs : List Event) :
    levelFrom p l (es ++ fs) = levelFrom p (levelFrom p l es) fs := by
  induction es generalizing l with
  | nil => rfl
  | cons e es ih => cases e <;> exact ih _

theorem pinLevel_append (p : PinId) (t es : List Event) :
    pinLevel p (t ++ es) = levelFrom p (pinLevel p t) es := by
  unfold pinLevel
  rw [List.foldl_append]
  generalize List.foldl _ none t = l
  induction es generalizing l with
  | nil => rfl
  | cons e es ih => cases e <;> exact ih _

theorem pinLevel_eq_levelFrom (p : PinId) (t : List Event) : pinLevel p t = levelFrom p none t := pinLevel_append p [] t

/-- Every block that leaves command mode enters data mode after it (R135). -/
theorem dataMode_law {cfg : Config} (hcs : cfg.pinDc ≠ cfg.pinCs) (hrst : cfg.pinRst ≠ some cfg.pinDc)
    (hbl : cfg.pinBl ≠ some cfg.pinDc) :
    TraceLaw cfg (fun _ => True) fun _ _ t =>
      pinLevel cfg.pinDc t = none ∨ pinLevel cfg.pinDc t = some cfg.lvlData where
  opens _ _ _ h := by simpa [pinLevel_append, levelFrom, hcs.symm] using h
  closes _ _ h := by simpa [pinLevel_append, levelFrom, closeEvents, hcs.symm] using h
  command _ _ _ _ := by simp [pinLevel_append, levelFrom]
  bytes _ _ _ _ _ _ h := by simpa [pinLevel_append, levelFrom] using h
  dataMode _ _ _ _ := by simp [pinLevel_append, levelFrom]
  faults _ _ h := by simpa [pinLevel_append, levelFrom] using h
  sleeps _ _ _ _ _ h := by simpa [pinLevel_append, levelFrom] using h
  drives _ _ _ p _ hp h := by
    have hne : p ≠ cfg.pinDc := by rintro rfl; exact hp.elim hrst hbl
    simpa [pinLevel_append, levelFrom, hne] using h
  configures _ _ _ _ h := by simpa [pinLevel_append, levelFrom] using h
  inits _ _ _ _ _ h := by simpa [pinLevel_append, levelFrom] using h
  deselects _ _ _ _ h := by simpa [pinLevel_append, levelFrom, hcs.symm] using h

/-- Settles O57, by the law of data mode. -/
theorem stepLeavesDataMode : Obligations.StepLeavesDataMode := by
  intro s t hcs hrst hbl h hstep
  exact ((dataMode_law hcs hrst hbl).step ⟨rfl, h⟩ hstep).2

/-! ## The bracket law (R132) -/

/-- The gate after the events, from gate `g`. -/
def gateFrom : Bool → List Event → Bool
  | g, [] => g
  | _, .busOpen _ _ _ :: es => gateFrom true es
  | _, .busClose :: es => gateFrom false es
  | g, .busInit _ _ :: es | g, .busWriteByte _ :: es | g, .busWriteBytes _ :: es | g, .pinConfigOut _ :: es
  | g, .pinSet _ _ :: es | g, .sleep _ :: es | g, .fault _ :: es => gateFrom g es

theorem gateAfter_append (t es : List Event) : gateAfter (t ++ es) = gateFrom (gateAfter t) es := by
  unfold gateAfter
  rw [List.foldl_append]
  generalize List.foldl _ false t = g
  induction es generalizing g with
  | nil => rfl
  | cons e es ih => cases e <;> exact ih _

theorem alternates_append (g : Bool) (t es : List Event) :
    alternates g (t ++ es) = (alternates g t && alternates (gateFrom g t) es) := by
  induction t generalizing g with
  | nil => simp [alternates, gateFrom]
  | cons e t ih => cases e <;> simp [alternates, gateFrom, ih, Bool.and_assoc]

theorem gateAfter_eq_gateFrom (t : List Event) : gateAfter t = gateFrom false t := gateAfter_append [] t

/-- A trace whose opens have their chip-select event beside them does not end at an open. -/
theorem opensAssert_append {cs : PinId} {t es : List Event} (ht : opensAssert cs t = true)
    (hes : opensAssert cs es = true) : opensAssert cs (t ++ es) = true := by
  induction t with
  | nil => exact hes
  | cons e t ih =>
    simp only [List.cons_append, opensAssert, Bool.and_eq_true] at ht ⊢
    refine ⟨?_, ih ht.2⟩
    cases t with
    | nil => cases e <;> simp_all
    | cons => exact ht.1

theorem closesDeassert_append {cs : PinId} {prev : Option Event} {t es : List Event}
    (ht : closesDeassert cs prev t = true) (hes : ∀ p, closesDeassert cs p es = true) :
    closesDeassert cs prev (t ++ es) = true := by
  induction t generalizing prev with
  | nil => exact hes prev
  | cons e t ih =>
    simp only [List.cons_append, closesDeassert, Bool.and_eq_true] at ht ⊢
    exact ⟨ht.1, ih ht.2⟩

/-- R132 of a trace with the gate `g` after it. -/
def Bracketed (cs : PinId) (g : Bool) (t : List Event) : Prop :=
  alternates false t = true ∧ gateAfter t = g ∧ opensAssert cs t = true ∧ closesDeassert cs none t = true

theorem Bracketed.append {cs : PinId} {g g' : Bool} {t es : List Event} (h : Bracketed cs g t)
    (halt : alternates g es = true) (hgate : gateFrom g es = g') (hopen : opensAssert cs es = true)
    (hclose : ∀ p, closesDeassert cs p es = true) : Bracketed cs g' (t ++ es) := by
  obtain ⟨halt', rfl, hopen', hclose'⟩ := h
  refine ⟨?_, gateAfter_append t es ▸ hgate, opensAssert_append hopen' hopen, closesDeassert_append hclose' hclose⟩
  rw [alternates_append, halt', ← gateAfter_eq_gateFrom, halt]
  rfl

theorem bracket_law (cfg : Config) : TraceLaw cfg (fun _ => True) fun g _ t => Bracketed cfg.pinCs g t where
  opens _ _ _ h := h.append rfl rfl (by simp [opensAssert]) fun _ => rfl
  closes _ _ h := h.append rfl rfl rfl (by simp [closeEvents, closesDeassert])
  command _ _ _ h := h.append rfl rfl rfl fun _ => rfl
  bytes _ _ _ _ _ _ h := h.append rfl rfl rfl fun _ => rfl
  dataMode _ _ _ h := h.append rfl rfl rfl fun _ => rfl
  faults _ _ h := h.append rfl rfl rfl fun _ => rfl
  sleeps _ _ _ _ _ h := h.append rfl rfl rfl fun _ => rfl
  drives _ _ _ _ _ _ h := h.append rfl rfl rfl fun _ => rfl
  configures _ _ _ _ h := h.append rfl rfl rfl fun _ => rfl
  inits _ _ _ _ _ h := h.append rfl rfl rfl fun _ => rfl
  deselects _ _ _ _ h := h.append rfl rfl rfl fun _ => rfl

/-- Settles O14, by the bracket law. -/
theorem stepKeepsBracketLaw : Obligations.StepKeepsBracketLaw := by
  intro s t h hstep
  obtain ⟨hcfg, hlaw⟩ := (bracket_law s.cfg).step (s := s) ⟨rfl, h⟩ hstep
  rwa [← hcfg] at hlaw

/-! ## Delivery (R62) -/

/-- The wire view of a trace and of what follows it, chip-select being tracked on a pin of its own. -/
theorem wireScan_append {pinDc pinCs : PinId} (hne : pinCs ≠ pinDc) (dc cs : Option Level) (t es : List Event) :
    wireScan pinDc pinCs dc cs (t ++ es) =
      wireScan pinDc pinCs dc cs t ++ wireScan pinDc pinCs (levelFrom pinDc dc t) (levelFrom pinCs cs t) es := by
  induction t generalizing dc cs with
  | nil => rfl
  | cons e t ih =>
    cases e with
    | pinSet p l =>
      by_cases hdc : p = pinDc
      · simp [wireScan, levelFrom, hdc, hne.symm, ih]
      · by_cases hcs : p = pinCs <;> simp [wireScan, levelFrom, hdc, hcs, hne, ih]
    | _ => simp [wireScan, levelFrom, ih]

/-- Chip-select LOW exactly in an Open gate, and, without a fault, every byte of the wire view sent with it LOW. -/
def Delivers (cfg : Config) (g f : Bool) (t : List Event) : Prop :=
  (pinLevel cfg.pinCs t = some .low ↔ g = true) ∧
  (f = false → ∀ b ∈ wireScan cfg.pinDc cfg.pinCs none none t, b.cs = some .low)

theorem Delivers.append {cfg : Config} {g f g' f' : Bool} {t es : List Event} (hne : cfg.pinCs ≠ cfg.pinDc)
    (h : Delivers cfg g f t) (hf : f' = false → f = false)
    (hcs : levelFrom cfg.pinCs (pinLevel cfg.pinCs t) es = some .low ↔ g' = true)
    (hes : f' = false → ∀ dc, ∀ b ∈ wireScan cfg.pinDc cfg.pinCs dc (pinLevel cfg.pinCs t) es, b.cs = some .low) :
    Delivers cfg g' f' (t ++ es) := by
  refine ⟨pinLevel_append cfg.pinCs t es ▸ hcs, fun hf' => ?_⟩
  rw [wireScan_append hne, ← pinLevel_eq_levelFrom cfg.pinCs]
  exact List.forall_mem_append.2 ⟨h.2 (hf hf'), hes hf' _⟩

/-- Bytes go out in an Open gate or after the fault; only begin's set-up moves chip-select with the gate Idle. -/
theorem delivery_law {cfg : Config} (halone : csAlone cfg) : TraceLaw cfg (· = false) (Delivers cfg) := by
  obtain ⟨hne, hrst, hbl⟩ := halone
  constructor
  case opens => exact fun _ _ _ h => h.append hne id (by simp [levelFrom]) (by simp [wireScan, hne])
  case closes =>
    exact fun _ _ h => h.append hne id (by simp [closeEvents, levelFrom]) (by simp [closeEvents, wireScan, hne])
  case command =>
    intro f t c h
    have hlow := h.1.2 rfl
    exact h.append hne id (by simp [levelFrom, hlow, hne.symm]) (by simp [wireScan, hlow])
  case bytes =>
    intro g f t bs hgo _ h
    refine h.append hne id (by simpa [levelFrom] using h.1) fun hf => ?_
    have hlow := h.1.2 (hgo.resolve_right (by simp [hf]))
    simp [wireScan, hlow]
  case dataMode => exact fun _ _ _ h => h.append hne id (by simpa [levelFrom, hne.symm] using h.1) (by simp [wireScan])
  case faults => exact fun _ _ h => h.append hne (by simp) (by simpa [levelFrom] using h.1) (by simp)
  case sleeps => exact fun _ _ _ _ _ h => h.append hne id (by simpa [levelFrom] using h.1) (by simp [wireScan])
  case drives =>
    intro g f t p l hp h
    have hpcs : p ≠ cfg.pinCs := by rintro rfl; exact hp.elim hrst hbl
    refine h.append hne id (by simpa [levelFrom, hpcs] using h.1) ?_
    simp [wireScan, hpcs]
  case configures => exact fun _ _ _ _ h => h.append hne id (by simpa [levelFrom] using h.1) (by simp [wireScan])
  case inits => exact fun _ _ _ _ _ h => h.append hne id (by simpa [levelFrom] using h.1) (by simp [wireScan])
  case deselects =>
    rintro _ _ _ rfl h
    exact h.append hne id (by simp [levelFrom]) (by simp [wireScan, hne])

theorem Kept.keeps {P : State → Prop} (k : Kept P) {u : Update} (hb : u ≠ .begins) : u.Keeps P := by
  cases u with
  | opens => exact k.afterOpen
  | closes => exact k.afterClose
  | command => exact k.afterCommand
  | bounds => exact k.afterBounds
  | fill => exact k.afterFill
  | pixels => exact k.afterPixels
  | pixel => exact k.afterPixel
  | rotates => exact k.rotated
  | backlight => exact k.afterBacklight
  | returns => exact k.returned
  | begins => exact absurd rfl hb

/-- A law that begin keeps only in certain gates, along an instruction whose host duty puts begin in one of them. -/
theorem TraceLaw.effect {cfg : Config} {free : Bool → Prop} {Q : Bool → Bool → List Event → Prop}
    (k : TraceLaw cfg free Q) {i : Instr} {s : State} (hfree : ∀ v, i = .begin v → free s.inTx) (h : Lawful cfg Q s) :
    Lawful cfg Q (effect i s) := by
  by_cases hb : ∃ v, i = .begin v
  · obtain ⟨v, rfl⟩ := hb
    exact k.afterBegin v (hfree v rfl) h
  · have hnot := begins_notMem_updates (not_exists.1 hb)
    exact effect_keeps (fun _ hu => k.kept.keeps (ne_of_mem_of_not_mem hu hnot)) h

/-- Settles O58, by the law of delivery; the host's duty is what begin needs of the gate. -/
theorem noFaultMeansDelivered : Obligations.NoFaultMeansDelivered := by
  intro i s t halone hduty hcs hdel h
  have hlaw : Lawful s.cfg (Delivers s.cfg) s := ⟨rfl, hcs, hdel⟩
  obtain ⟨hcfg, hcs', hdel'⟩ := (delivery_law halone).effect (i := i) (by rintro v rfl; exact hduty) hlaw
  rw [exec_next h]
  rw [← hcfg] at hcs' hdel'
  exact ⟨hcs', hdel'⟩

end Sys2Proof.Machine

/-! PROOFS. begin (spec/41_init_sequencer.md R150 to R163, spec/70_reset_and_hazards.md R302, R319, R320). -/

namespace Sys2Proof.Machine

/-! ## The events of begin, per gate -/

/-- The backlight's event at the end of begin (R159). -/
def backlightEvents (cfg : Config) : List Event :=
  match cfg.pinBl with
  | none => []
  | some p => [.pinSet p .high]

theorem beginEvents_of_idle {s : State} (hg : s.inTx = false) :
    beginEvents s = configureEvents s.cfg ++ resetEvents s ++ openEvents s ++ replayEvents s.cfg ++
      frameEvents s.cfg s.cfg.cmdMadctl [madctlEntry s.cfg s.rotation] 0 ++ closeEvents s.cfg ++
      backlightEvents s.cfg := by
  rw [beginEvents, hg]
  rfl

theorem beginEvents_of_open {s : State} (hg : s.inTx = true) :
    beginEvents s = configureEvents s.cfg ++ resetEvents s ++ replayEvents s.cfg ++
      frameEvents s.cfg s.cfg.cmdMadctl [madctlEntry s.cfg s.rotation] 0 ++ closeEvents s.cfg ++
      backlightEvents s.cfg := by
  rw [beginEvents, hg, if_pos rfl, List.append_nil]
  rfl

theorem mem_frameEvents {cfg : Config} {c : Byte} {d : List Byte} {ms : U16} {e : Event}
    (he : e ∈ frameEvents cfg c d ms) :
    (∃ l, e = .pinSet cfg.pinDc l) ∨ e = .busWriteByte c ∨ e = .busWriteBytes d ∨ e = .sleep (delayOf ms) := by
  have hsome : ∀ {p : Prop} [Decidable p] {x : Event}, e ∈ (if p then [] else [x]) → e = x := by
    intro p _ x hx
    split at hx
    · cases hx
    · exact List.mem_singleton.1 hx
  simp only [frameEvents, List.mem_append, List.mem_cons, List.not_mem_nil, or_false] at he
  obtain ((h | h | h) | h) | h := he
  · exact .inl ⟨_, h⟩
  · exact .inr (.inl h)
  · exact .inl ⟨_, h⟩
  · exact .inr (.inr (.inl (hsome h)))
  · exact .inr (.inr (.inr (hsome h)))

/-- Settles O15: `beginEvents` with the gate Idle. -/
theorem beginFromIdle : Obligations.BeginFromIdle := by
  intro s speed hs hg
  refine ⟨exec_begin_completes hs speed, ?_⟩
  rw [afterBegin_trace, beginEvents_of_idle (s := s.withSpeed speed) hg]
  simp only [List.append_assoc]
  rfl

/-! ## begin from an Open gate (R163) -/

/-- What begin emits where it opens no transaction. -/
inductive OpenBeginEvent (cfg : Config) : Event → Prop
  | drive (p : PinId) (l : Level) (h : p = cfg.pinDc ∨ cfg.pinRst = some p ∨ cfg.pinBl = some p) :
    OpenBeginEvent cfg (.pinSet p l)
  | deselect : OpenBeginEvent cfg (.pinSet cfg.pinCs .high)
  | configure (p : PinId) : OpenBeginEvent cfg (.pinConfigOut p)
  | init (a b : Option PinId) : OpenBeginEvent cfg (.busInit a b)
  | byte (b : Byte) : OpenBeginEvent cfg (.busWriteByte b)
  | bytes (bs : List Byte) : OpenBeginEvent cfg (.busWriteBytes bs)
  | sleep (ms : U32) : OpenBeginEvent cfg (.sleep ms)
  | close : OpenBeginEvent cfg .busClose

theorem frameEvents_openBegin (cfg : Config) (c : Byte) (d : List Byte) (ms : U16) :
    ∀ e ∈ frameEvents cfg c d ms, OpenBeginEvent cfg e := by
  intro e he
  obtain ⟨l, rfl⟩ | rfl | rfl | rfl := mem_frameEvents he
  · exact .drive _ l (.inl rfl)
  · exact .byte c
  · exact .bytes d
  · exact .sleep _

theorem replayEvents_openBegin (cfg : Config) : ∀ e ∈ replayEvents cfg, OpenBeginEvent cfg e := by
  intro e he
  obtain ⟨entry, -, he⟩ := List.mem_flatMap.1 he
  exact frameEvents_openBegin cfg _ _ _ e he

theorem resetEvents_openBegin {s : State} (hg : s.inTx = true) : ∀ e ∈ resetEvents s, OpenBeginEvent s.cfg e := by
  unfold resetEvents
  cases hp : s.cfg.pinRst with
  | none =>
    dsimp only
    rw [commandEvents_open hg]
    exact frameEvents_openBegin _ _ _ _
  | some p =>
    have hdrive : ∀ l, OpenBeginEvent s.cfg (.pinSet p l) := fun l => .drive p l (.inr (.inl hp))
    simp [hdrive, OpenBeginEvent.sleep]

theorem optionalPinEvents_openBegin {cfg : Config} {o : Option PinId} (lvl : Level)
    (ho : ∀ p, o = some p → cfg.pinRst = some p ∨ cfg.pinBl = some p) :
    ∀ e ∈ optionalPinEvents o lvl, OpenBeginEvent cfg e := by
  cases o with
  | none => simp [optionalPinEvents]
  | some p => simp [optionalPinEvents, OpenBeginEvent.configure, OpenBeginEvent.drive p lvl (.inr (ho p rfl))]

theorem configureEvents_openBegin (cfg : Config) : ∀ e ∈ configureEvents cfg, OpenBeginEvent cfg e := by
  rw [configureEvents_eq]
  simp only [List.forall_mem_append]
  refine ⟨⟨⟨?_, optionalPinEvents_openBegin _ fun _ => .inl⟩, optionalPinEvents_openBegin _ fun _ => .inr⟩, ?_⟩
  · simp [OpenBeginEvent.configure, OpenBeginEvent.deselect]
  · simp [OpenBeginEvent.init]

theorem closeEvents_openBegin (cfg : Config) : ∀ e ∈ closeEvents cfg, OpenBeginEvent cfg e := by
  simp [closeEvents, OpenBeginEvent.deselect, OpenBeginEvent.close]

theorem backlightEvents_openBegin (cfg : Config) : ∀ e ∈ backlightEvents cfg, OpenBeginEvent cfg e := by
  unfold backlightEvents
  cases hp : cfg.pinBl with
  | none => simp
  | some p => simp [OpenBeginEvent.drive p .high (.inr (.inr hp))]

theorem beginEvents_openBegin {s : State} (hg : s.inTx = true) : ∀ e ∈ beginEvents s, OpenBeginEvent s.cfg e := by
  rw [beginEvents_of_open hg]
  simp only [List.forall_mem_append]
  refine ⟨⟨⟨⟨⟨configureEvents_openBegin _, resetEvents_openBegin hg⟩, replayEvents_openBegin _⟩,
    frameEvents_openBegin _ _ _ _⟩, closeEvents_openBegin _⟩, backlightEvents_openBegin _⟩

/-- begin drives chip-select HIGH before it sends anything (R151). -/
theorem beginEvents_head (s : State) : ∃ es,
    beginEvents s = .pinConfigOut s.cfg.pinDc :: .pinConfigOut s.cfg.pinCs :: .pinSet s.cfg.pinCs .high :: es :=
  ⟨_, rfl⟩

theorem busOpen_not_openBegin (cfg : Config) (f : U32) (o : BitOrder) (m : BitVec 2) :
    ¬ OpenBeginEvent cfg (.busOpen f o m) := by
  rintro ⟨⟩

/-- With chip-select HIGH on a pin of its own, such events send every byte with it HIGH. -/
theorem wireScan_openBegin {cfg : Config} (halone : csAlone cfg) {es : List Event}
    (hes : ∀ e ∈ es, OpenBeginEvent cfg e) (dc : Option Level) :
    ∀ b ∈ wireScan cfg.pinDc cfg.pinCs dc (some .high) es, b.cs = some .high := by
  obtain ⟨hdc, hrst, hbl⟩ := halone
  induction es generalizing dc with
  | nil => simp [wireScan]
  | cons e es ih =>
    obtain ⟨he, hes⟩ := List.forall_mem_cons.1 hes
    have ih := ih hes
    cases he with
    | drive p l hp =>
      have hcs : p ≠ cfg.pinCs := by rintro rfl; tauto
      by_cases hpd : p = cfg.pinDc <;> simpa [wireScan, hpd, hcs] using ih _
    | deselect => simpa [wireScan, hdc] using ih dc
    | configure | init | sleep | close => exact ih dc
    | byte => exact List.forall_mem_cons.2 ⟨rfl, ih dc⟩
    | bytes bs => exact List.forall_mem_append.2 ⟨by simp, ih dc⟩

/-- Settles O16: `beginEvents` with the gate Open, none of which opens a transaction or drives chip-select LOW. -/
theorem beginFromOpen : Obligations.BeginFromOpen := by
  intro s speed es hs hg hes
  have hreset := resetEvents.eq_def (s.withSpeed speed)
  simp only [commandEvents_open (s := s.withSpeed speed) hg] at hreset
  obtain rfl : es = beginEvents (s.withSpeed speed) := by
    rw [hes, beginEvents_of_open (s := s.withSpeed speed) hg, hreset]
    rfl
  have hall := beginEvents_openBegin (s := s.withSpeed speed) hg
  refine ⟨exec_begin_completes hs speed, fun f o m hmem => ?noOpen, fun halone => ?high⟩
  case noOpen => exact busOpen_not_openBegin _ f o m (hall _ hmem)
  case high =>
    obtain ⟨rest, hsplit⟩ := beginEvents_head (s.withSpeed speed)
    rw [hsplit] at hall ⊢
    simp only [List.forall_mem_cons] at hall
    simpa [wireScan, halone.1] using wireScan_openBegin halone hall.2.2.2 _

end Sys2Proof.Machine

/-! PROOFS. The state after begin: its pointer (R33, R157), its sleeps (R319, R320), and the pins (R302). -/

namespace Sys2Proof.Machine

/-! ## The pointer -/

/-- The first element that fails `p` stands behind the elements before it that pass. -/
theorem getElem?_length_takeWhile {α : Type} {p : α → Bool} {l : List α} (h : ∃ a ∈ l, p a = false) :
    ∃ a, l[(l.takeWhile p).length]? = some a ∧ p a = false := by
  induction l with
  | nil => simp at h
  | cons b l ih =>
    cases hb : p b with
    | false => exact ⟨b, by simp [hb], hb⟩
    | true =>
      obtain ⟨a, ha, hpa⟩ := h
      have hal : a ∈ l := (List.mem_cons.1 ha).resolve_left (by rintro rfl; simp [hb] at hpa)
      simpa [hb] using ih ⟨a, hal, hpa⟩

theorem of_lt_length_takeWhile {α : Type} {p : α → Bool} {l : List α} {k : Nat} (hk : k < (l.takeWhile p).length)
    {a : α} (ha : l[k]? = some a) : p a = true := by
  have hget : (l.takeWhile p)[k]? = some a := by
    rw [← ha]
    conv_rhs => rw [← List.takeWhile_append_dropWhile (p := p) (l := l)]
    rw [List.getElem?_append_left hk]
  exact List.mem_takeWhile_imp (List.mem_of_getElem? hget)

/-- A well-formed table holds a sentinel (R98). -/
theorem exists_sentinel (t : InitTable) : ∃ e ∈ t.entries, (!e.isSentinel) = false := by
  obtain ⟨hany, -⟩ := Bool.and_eq_true_iff.1 t.wf
  simpa using hany

/-- Settles O18: the pointer is the number of entries before the first sentinel. -/
theorem beginStopsAtFirstSentinel : Obligations.BeginStopsAtFirstSentinel := by
  intro s speed hs
  obtain ⟨e, he, hsent⟩ := getElem?_length_takeWhile (exists_sentinel s.cfg.initTable)
  refine ⟨s.afterBegin speed, e, exec_begin_completes hs speed, he, by simpa using hsent, fun k hk f hf => ?_⟩
  simpa using of_lt_length_takeWhile hk hf

/-! ## The sleeps -/

theorem sleepTotal_append (t es : List Event) : sleepTotal (t ++ es) = sleepTotal t + sleepTotal es := by
  induction t with
  | nil => simp [sleepTotal]
  | cons e t ih => cases e <;> simp [sleepTotal, ih, Nat.add_assoc]

theorem sleepTotal_frameEvents (cfg : Config) (c : Byte) (d : List Byte) (ms : U16) :
    sleepTotal (frameEvents cfg c d ms) = ms.toNat := by
  have hdelay : (delayOf ms).toNat = ms.toNat := BitVec.toNat_setWidth_of_le (by decide)
  have hdata : sleepTotal (if d = [] then [] else [.busWriteBytes d]) = 0 := by split <;> rfl
  have hsleep : sleepTotal (if ms = 0 then [] else [.sleep (delayOf ms)]) = ms.toNat := by
    split
    · next h0 => rw [h0]; rfl
    · exact hdelay
  rw [frameEvents, sleepTotal_append, sleepTotal_append, hdata, hsleep]
  exact Nat.zero_add _

theorem sleepTotal_commandEvents (s : State) (c : Byte) (d : List Byte) (ms : U16) :
    sleepTotal (commandEvents s c d ms) = ms.toNat := by
  cases hg : s.inTx <;>
    simp [commandEvents, hg, sleepTotal_append, sleepTotal_frameEvents, openEvents, closeEvents, sleepTotal]

theorem sleepTotal_resetEvents (s : State) : sleepTotal (resetEvents s) = 150 := by
  unfold resetEvents
  cases s.cfg.pinRst with
  | none => exact sleepTotal_commandEvents s _ _ _
  | some p => rfl

theorem sleepTotal_replayEvents (cfg : Config) :
    sleepTotal (replayEvents cfg) = ((replayed cfg).map fun e => e.postDelayMs.toNat).sum := by
  unfold replayEvents
  induction replayed cfg with
  | nil => rfl
  | cons e es ih => simp [sleepTotal_append, sleepTotal_frameEvents, ih]

theorem sleepTotal_configureEvents (cfg : Config) : sleepTotal (configureEvents cfg) = 0 := by
  have hopt : ∀ o lvl, sleepTotal (optionalPinEvents o lvl) = 0 := fun o lvl => by cases o <;> rfl
  simp [configureEvents_eq, sleepTotal_append, hopt, sleepTotal]

theorem sleepTotal_beginEvents (s : State) :
    sleepTotal (beginEvents s) = 150 + ((replayed s.cfg).map fun e => e.postDelayMs.toNat).sum := by
  have hopen : sleepTotal (openEvents s) = 0 := rfl
  have hclose : sleepTotal (closeEvents s.cfg) = 0 := rfl
  have hbl : sleepTotal (backlightEvents s.cfg) = 0 := by unfold backlightEvents; split <;> rfl
  cases hg : s.inTx <;>
    simp [beginEvents_of_idle, beginEvents_of_open, hg, sleepTotal_append, sleepTotal_configureEvents,
      sleepTotal_resetEvents, sleepTotal_replayEvents, sleepTotal_frameEvents, hopen, hclose, hbl]

/-- Settles O19: the reset sleeps 150 ms on either branch, and each entry sent its delay. -/
theorem beginSleepsAddUp : Obligations.BeginSleepsAddUp := by
  intro s speed hs
  refine ⟨s.afterBegin speed, exec_begin_completes hs speed, ?_⟩
  rw [afterBegin_trace, sleepTotal_append, sleepTotal_beginEvents, ← Nat.add_assoc]
  rfl

/-! ## The pins after begin -/

/-- Events that do not drive a pin leave its level. -/
theorem levelFrom_of_undriven {p : PinId} {es : List Event} (h : ∀ l, Event.pinSet p l ∉ es) (l : Option Level) :
    levelFrom p l es = l := by
  induction es generalizing l with
  | nil => rfl
  | cons e es ih =>
    have hes : ∀ l, Event.pinSet p l ∉ es := fun l hl => h l (List.mem_cons_of_mem _ hl)
    cases e with
    | pinSet q v =>
      have hq : q ≠ p := by rintro rfl; exact h v List.mem_cons_self
      rw [levelFrom, if_neg hq]
      exact ih hes l
    | _ => exact ih hes l

section
variable {cfg : Config} {p : PinId}

theorem frameEvents_undriven (hp : p ≠ cfg.pinDc) (c : Byte) (d : List Byte) (ms : U16) (l : Level) :
    Event.pinSet p l ∉ frameEvents cfg c d ms := by
  intro h
  obtain ⟨l, h⟩ | h | h | h := mem_frameEvents h
  · injection h with hq
    exact hp hq
  all_goals cases h

theorem replayEvents_undriven (hp : p ≠ cfg.pinDc) (l : Level) : Event.pinSet p l ∉ replayEvents cfg := by
  intro h
  obtain ⟨e, -, h⟩ := List.mem_flatMap.1 h
  exact frameEvents_undriven hp _ _ _ l h

theorem closeEvents_undriven (hp : p ≠ cfg.pinCs) (l : Level) : Event.pinSet p l ∉ closeEvents cfg := by
  simp [closeEvents, hp]

theorem openEvents_undriven {s : State} (hp : p ≠ s.cfg.pinCs) (l : Level) : Event.pinSet p l ∉ openEvents s := by
  simp [openEvents, hp]

theorem backlightEvents_undriven (hp : cfg.pinBl ≠ some p) (l : Level) : Event.pinSet p l ∉ backlightEvents cfg := by
  unfold backlightEvents
  cases hb : cfg.pinBl with
  | none => simp
  | some q =>
    have hq : p ≠ q := by rintro rfl; exact hp hb
    simp [hq]

theorem levelFrom_frameEvents_pinDc (l : Option Level) (c : Byte) (d : List Byte) (ms : U16) :
    levelFrom cfg.pinDc l (frameEvents cfg c d ms) = some cfg.lvlData := by
  have hdata : ∀ l : Level, Event.pinSet cfg.pinDc l ∉ (if d = [] then [] else [.busWriteBytes d]) := by split <;> simp
  have hsleep : ∀ l : Level, Event.pinSet cfg.pinDc l ∉ (if ms = 0 then [] else [.sleep (delayOf ms)]) := by
    split <;> simp
  rw [frameEvents, levelFrom_append, levelFrom_append, levelFrom_of_undriven hsleep, levelFrom_of_undriven hdata]
  simp [levelFrom]

theorem levelFrom_resetEvents_pinRst {s : State} (hp : s.cfg.pinRst = some p) (l : Option Level) :
    levelFrom p l (resetEvents s) = some .high := by
  simp [resetEvents, hp, levelFrom]

theorem levelFrom_backlightEvents_pinBl (hp : cfg.pinBl = some p) (l : Option Level) :
    levelFrom p l (backlightEvents cfg) = some .high := by
  simp [backlightEvents, hp, levelFrom]

end

/-- Settles O20: the registers are `afterBegin`'s, and each pin has the level of the last block that drives it. -/
theorem stateAfterBegin : Obligations.StateAfterBegin := by
  intro s speed hs hg ⟨hcsdc, hcsrst, hcsbl⟩ hrst hbldc
  have hlevel : ∀ p, pinLevel p (s.afterBegin speed).trace =
      levelFrom p (pinLevel p s.trace) (beginEvents (s.withSpeed speed)) := fun p => by
    rw [afterBegin_trace, pinLevel_append]
  refine ⟨s.afterBegin speed, exec_begin_completes hs speed, rfl, rfl, rfl, rfl, rfl, rfl, rfl, rfl, rfl, rfl, rfl, rfl,
    ?cs, ?dc, fun p hp => ?rst, fun p hp => ?bl⟩ <;>
    rw [hlevel, beginEvents_of_idle (s := s.withSpeed speed) hg] <;> simp only [withSpeed_cfg, levelFrom_append]
  case cs =>
    rw [levelFrom_of_undriven (backlightEvents_undriven hcsbl)]
    simp [closeEvents, levelFrom]
  case dc =>
    rw [levelFrom_of_undriven (backlightEvents_undriven hbldc),
      levelFrom_of_undriven (closeEvents_undriven hcsdc.symm), levelFrom_frameEvents_pinDc]
  case rst =>
    obtain ⟨hdc, hbl⟩ := hrst p hp
    have hcs : p ≠ s.cfg.pinCs := by rintro rfl; exact hcsrst hp
    rw [levelFrom_of_undriven (backlightEvents_undriven hbl), levelFrom_of_undriven (closeEvents_undriven hcs),
      levelFrom_of_undriven (frameEvents_undriven hdc _ _ _), levelFrom_of_undriven (replayEvents_undriven hdc),
      levelFrom_of_undriven (openEvents_undriven (s := s.withSpeed speed) hcs),
      levelFrom_resetEvents_pinRst (s := s.withSpeed speed) hp]
  case bl => exact levelFrom_backlightEvents_pinBl hp _

end Sys2Proof.Machine

/-! PROOFS. Construction, the command engine, the address window and the orientation (spec/70_reset_and_hazards.md R300,
spec/40_transaction.md R133, spec/42_address_window.md, spec/44_control.md). -/

namespace Sys2Proof.Machine

/-! ## Construction -/

/-- Settles O9: each field is `State.construct`'s, and the trace is empty. -/
theorem constructionValues : Obligations.ConstructionValues := by
  refine ⟨?_, rfl⟩
  rintro cfg s rfl
  exact ⟨rfl, rfl, rfl, rfl, rfl, rfl, rfl, rfl, rfl, rfl, rfl, rfl, rfl, rfl, rfl, rfl, rfl, fun _ => ⟨rfl, rfl⟩⟩

/-- Settles O59: with no event and the gate Idle, each invariant holds of nothing. -/
theorem invariantsAtReset : Obligations.InvariantsAtReset := by
  intro cfg
  refine ⟨construct_geometry cfg, ⟨rfl, rfl⟩, ⟨rfl, rfl, rfl, rfl⟩, ?forms, ?fault, ?cs, ?delivered⟩
  case forms => simp [State.eventsWf, State.construct]
  case fault => simp [State.faultRecorded, State.construct]
  case cs => simp [State.csFollowsGate, State.construct, pinLevel]
  case delivered => simp [State.allDelivered, wireView, State.construct, wireScan]

/-! ## The command engine -/

theorem exec_sendCommand_completes {s : State} (h : s.stallAt = none) (cmd : Byte) (ms : U16) (d : List Byte) :
    exec (.sendCommand cmd ms d) s = .next (s.log (commandEvents s cmd d ms)) :=
  exec_completes h (.sendCommand cmd ms d)

theorem commandEvents_idle {s : State} (h : s.inTx = false) (cmd : Byte) (data : List Byte) (d : U16) :
    commandEvents s cmd data d = openEvents s ++ frameEvents s.cfg cmd data d ++ closeEvents s.cfg := by
  rw [commandEvents, h]
  rfl

/-- Settles O12, by the events of a command in either gate. -/
theorem sendCommandEmitsItsFrame : Obligations.SendCommandEmitsItsFrame := by
  intro s cmd ms d hs
  rw [exec_sendCommand_completes hs]
  cases hg : s.inTx with
  | true =>
    rw [commandEvents_open hg]
    simp [State.log, hg, frameEvents, delayOf]
  | false =>
    rw [commandEvents_idle hg]
    simp [State.log, hg, frameEvents, delayOf, openEvents, closeEvents]

/-- Settles O13: each is the command engine on its frame's command byte and data bytes. -/
theorem composedFramesAreSent : Obligations.ComposedFramesAreSent := fun _ hs =>
  ⟨fun a b => exec_completes hs (.caset a b), fun a b => exec_completes hs (.raset a b), exec_completes hs .ramwr,
    fun m => exec_completes hs (.madctl m), exec_completes hs .invon, exec_completes hs .invoff,
    exec_completes hs .swreset⟩

/-! ## The address window -/

theorem exec_setAddrWindow_completes {s : State} (h : s.stallAt = none) (x y w k : U16) :
    exec (.setAddrWindow x y w k) s = .next (s.afterWindow x.toInt y.toInt w.toInt k.toInt) :=
  exec_completes h (.setAddrWindow x y w k)

/-- The comparators (R181) as propositions. -/
theorem windowEvents_eq (s : State) (xa xb ya yb : U16) :
    windowEvents s xa xb ya yb =
      (if xa ≠ s.cachedX0 ∨ xb ≠ s.cachedX1 then commandEvents s s.cfg.cmdCaset (rangeBytes xa xb) 0 else []) ++
      (if ya ≠ s.cachedY0 ∨ yb ≠ s.cachedY1 then commandEvents s s.cfg.cmdRaset (rangeBytes ya yb) 0 else []) ++
      commandEvents s s.cfg.cmdRamwr [] 0 := by
  simp [windowEvents, missX, missY]

/-- Settles O21, by the closed form of the window and its comparators. -/
theorem setAddrWindowResult : Obligations.SetAddrWindowResult := by
  rintro s x y w h xa xb ya yb hs rfl rfl rfl rfl
  rw [exec_setAddrWindow_completes hs, State.afterWindow, State.afterBounds, windowEvents_eq]
  simp only [State.log, List.append_assoc]
  rfl

/-- A window at the cached bounds is begin-memory-write alone (R188). -/
theorem afterBounds_cached (s : State) :
    s.afterBounds s.cachedX0 s.cachedX1 s.cachedY0 s.cachedY1 = s.log (commandEvents s s.cfg.cmdRamwr [] 0) := by
  rw [State.afterBounds, windowEvents_eq]
  simp [State.log]

/-- A window with another first column on the cached rows sends no row range (R188). -/
theorem afterBounds_cachedRows_trace {s : State} {xa : U16} (h : xa ≠ s.cachedX0) (xb : U16) :
    (s.afterBounds xa xb s.cachedY0 s.cachedY1).trace = s.trace ++
      commandEvents s s.cfg.cmdCaset (rangeBytes xa xb) 0 ++ commandEvents s s.cfg.cmdRamwr [] 0 := by
  rw [afterBounds_trace, windowEvents_eq]
  simp [h]

/-- Settles O22: the second call meets the cached bounds, the third the cached rows. -/
theorem windowCaching : Obligations.WindowCaching := by
  intro s x x' y w h hs hx
  let t := s.afterWindow x.toInt y.toInt w.toInt h.toInt
  let u := t.afterWindow x.toInt y.toInt w.toInt h.toInt
  exact ⟨t, u, u.afterWindow x'.toInt y.toInt w.toInt h.toInt, exec_setAddrWindow_completes hs x y w h,
    exec_setAddrWindow_completes (s := t) hs x y w h, exec_setAddrWindow_completes (s := u) hs x' y w h,
    afterBounds_cached t, afterBounds_cachedRows_trace (s := u) hx _, rfl⟩

/-! ## Rotation -/

theorem setWidth_two_eq_of_toNat {r : Byte} {q : BitVec 2} (h : q.toNat = r.toNat % 4) : r.setWidth 2 = q :=
  BitVec.eq_of_toNat_eq ((BitVec.toNat_setWidth 2 r).trans h.symm)

theorem exec_setRotation_completes {s : State} (h : s.stallAt = none) (r : Byte) :
    exec (.setRotation r) s = .next (s.afterRotation (r.setWidth 2)) :=
  exec_completes h (.setRotation r)

/-- Settles O33, by the closed form of setRotation at `q`, the argument's two low bits. -/
theorem setRotationResult : Obligations.SetRotationResult := by
  intro s r q hs hq
  rw [exec_setRotation_completes hs, setWidth_two_eq_of_toNat hq]
  rfl

/-- Settles O34: only the argument's two low bits are used. -/
theorem rotationIsModuloFour : Obligations.RotationIsModuloFour := by
  intro s r r' h
  have hbits : rotationOf r = rotationOf r' := setWidth_two_eq_of_toNat ((BitVec.toNat_setWidth 2 r').trans h.symm)
  exact congrArg (fun q => finish s (applyRotation q s)) hbits

/-- Without an offset the first bound of a range is the coordinate. -/
theorem ofInt_toInt_add_zero (x : U16) : BitVec.ofInt 16 (x.toInt + (0 : U16).toInt) = x := by
  simp

/-- Settles O23: the cache is at the sentinel, so a comparator hits only on the sentinel pair (R185). -/
theorem rotationInvalidatesWindow : Obligations.RotationInvalidatesWindow := by
  intro s r x y w h hs
  let t := s.afterRotation (r.setWidth 2)
  refine ⟨t, t.afterWindow x.toInt y.toInt w.toInt h.toInt, exec_setRotation_completes hs r,
    exec_setAddrWindow_completes (s := t) hs x y w h, rfl, rfl, rfl, rfl, ?trace, ofInt_toInt_add_zero x,
    ofInt_toInt_add_zero y⟩
  case trace =>
    have hmiss : ∀ (a b : U16) (es : List Event),
        (if a ≠ 0xFFFF ∨ b ≠ 0xFFFF then es else []) = if a = 0xFFFF ∧ b = 0xFFFF then [] else es := by
      intro a b es
      simp only [ne_eq, ← not_and_or, ite_not]
    rw [State.afterWindow, afterBounds_trace, windowEvents_eq]
    simp only [← List.append_assoc]
    exact congrArg₂ (· ++ ·) (congrArg₂ (· ++ ·) (congrArg (t.trace ++ ·) (hmiss _ _ _)) (hmiss _ _ _)) rfl

/-! ## The window read as frames (R102) -/

/-- Bytes sent in data mode are data of the open frame. -/
theorem frameBytes_data {lvlCmd lvlData : Level} (h : lvlCmd ≠ lvlData) (fs : List (Byte × List Byte)) (c : Byte)
    (d bs : List Byte) :
    frameBytes lvlCmd (some lvlData) (fs, some (c, d)) bs = (fs, some (c, d ++ bs)) := by
  induction bs generalizing d with
  | nil => simp [frameBytes]
  | cons b bs ih => simp [frameBytes, frameByte, h.symm, ih]

/-- A command frame ends the frame before it and stays open. -/
theorem frameScan_frameEvents {cfg : Config} (h : cfg.lvlCmd ≠ cfg.lvlData) (dc : Option Level)
    (acc : List (Byte × List Byte) × Option (Byte × List Byte)) (c : Byte) (d : List Byte) (es : List Event) :
    frameScan cfg dc acc (frameEvents cfg c d 0 ++ es) =
      frameScan cfg (some cfg.lvlData) (acc.1 ++ acc.2.toList, some (c, d)) es := by
  by_cases hd : d = []
  · simp [frameEvents, hd, frameScan, frameBytes, frameByte]
  · simp [frameEvents, hd, frameScan, frameBytes, frameByte, frameBytes_data h]

/-- The frames of a window, where each range frame is there or not. -/
theorem framesOf_window {cfg : Config} (h : cfg.lvlCmd ≠ cfg.lvlData) (px py : Prop) [Decidable px] [Decidable py]
    (cx cy cr : Byte) (dx dy : List Byte) :
    framesOf cfg ((if px then frameEvents cfg cx dx 0 else []) ++ (if py then frameEvents cfg cy dy 0 else []) ++
        frameEvents cfg cr [] 0) =
      (if px then [(cx, dx)] else []) ++ (if py then [(cy, dy)] else []) ++ [(cr, [])] := by
  have hlast : ∀ dc acc, frameScan cfg dc acc (frameEvents cfg cr [] 0) = acc.1 ++ acc.2.toList ++ [(cr, [])] := by
    intro dc acc
    simpa [frameScan] using frameScan_frameEvents h dc acc cr [] []
  unfold framesOf
  split <;> split <;>
    simp only [List.nil_append, List.append_assoc, frameScan_frameEvents h, hlast] <;> rfl

/-- Settles O24: inside an Open gate the events are the frames themselves. -/
theorem windowReadsAsFrames : Obligations.WindowReadsAsFrames := by
  intro s x y w h hs hg hlvl
  refine ⟨_, _, exec_setAddrWindow_completes hs x y w h, afterBounds_trace s _ _ _ _, ?_⟩
  rw [windowEvents_eq]
  simp only [commandEvents_open hg]
  exact framesOf_window hlvl _ _ _ _ _ _ _

/-! ## Inversion and the backlight -/

/-- Settles O35, by the closed form of the command engine. -/
theorem invertDisplayResult : Obligations.InvertDisplayResult :=
  fun _ invert hs => exec_completes hs (.invertDisplay invert)

theorem exec_setBacklight_completes {s : State} (h : s.stallAt = none) (on : Bool) :
    exec (.setBacklight on) s = .next (s.afterBacklight (if on then 255 else 0) on) :=
  exec_completes h (.setBacklight on)

/-- Settles O36, by the rule of `afterBacklight` without the pin and with it. -/
theorem setBacklightResult : Obligations.SetBacklightResult := by
  intro s on hs
  rw [exec_setBacklight_completes hs]
  refine ⟨fun hp => ?noPin, fun p hp => ?pin⟩
  case noPin => rw [afterBacklight_of_no_pin hp]
  case pin => rw [afterBacklight_of_pin hp]; rfl

end Sys2Proof.Machine

/-! PROOFS. The pixel streams (spec/43_pixel_stream.md R200 to R212, spec/60_exceptions.md R282). -/

namespace Sys2Proof.Machine

/-! ## A stream's head in either gate -/

section
variable {s : State}

theorem streamHead_of_open (hg : s.inTx = true) : streamHead s = [.pinSet s.cfg.pinDc s.cfg.lvlData] := by
  rw [streamHead, hg]
  rfl

theorem streamHead_of_idle (hg : s.inTx = false) :
    streamHead s = [.fault .idleStream, .pinSet s.cfg.pinDc s.cfg.lvlData] := by
  rw [streamHead, hg]
  rfl

theorem faultAfterStream_of_open (hg : s.inTx = true) : faultAfterStream s = s.faultIdleStream := by
  simp [faultAfterStream, hg]

theorem faultAfterStream_of_idle (hg : s.inTx = false) : faultAfterStream s = true := by
  simp [faultAfterStream, hg]

theorem afterPixel_of_open (hg : s.inTx = true) (c : U16) :
    s.afterPixel c = s.log [.pinSet s.cfg.pinDc s.cfg.lvlData, .busWriteBytes (pixelBytes c)] := by
  rw [State.afterPixel, streamHead_of_open hg, faultAfterStream_of_open hg]
  rfl

theorem afterPixel_of_idle (hg : s.inTx = false) (c : U16) :
    s.afterPixel c =
      { s.log [.fault .idleStream, .pinSet s.cfg.pinDc s.cfg.lvlData, .busWriteBytes (pixelBytes c)] with
        faultIdleStream := true } := by
  rw [State.afterPixel, streamHead_of_idle hg, faultAfterStream_of_idle hg]
  rfl

end

/-! ## The rules of the stream instructions -/

section
variable {s : State} (h : s.stallAt = none)

include h

theorem exec_writeColorRepeated_completes (color : U16) (count : U32) :
    exec (.writeColorRepeated color count) s = .next (s.afterFill color count.toNat) :=
  exec_completes h (.writeColorRepeated color count)

theorem exec_writePixels_completes (colors : List U16) : exec (.writePixels colors) s = .next (s.afterPixels colors) :=
  exec_completes h (.writePixels colors)

theorem exec_writePixel_outside {x y : U16} (hout : outOfCanvas x.toInt y.toInt s = true) (color : U16) :
    exec (.writePixel x y color) s = .next s := by
  rw [exec_completes h, effect, if_pos hout]

theorem exec_writePixel_inside {x y : U16} (hin : outOfCanvas x.toInt y.toInt s = false) (color : U16) :
    exec (.writePixel x y color) s = .next ((s.afterWindow x.toInt y.toInt 1 1).afterPixel color) := by
  rw [exec_completes h, effect, if_neg (Bool.eq_false_iff.1 hin)]

end

theorem outOfCanvas_iff (x y : Int) (s : State) :
    outOfCanvas x y s = true ↔ x < 0 ∨ y < 0 ∨ (s.width.toNat : Int) ≤ x ∨ (s.height.toNat : Int) ≤ y := by
  simp [outOfCanvas, or_assoc]

theorem outOfCanvas_eq_false {x y : Int} {s : State} (hx0 : 0 ≤ x) (hx : x < s.width.toNat) (hy0 : 0 ≤ y)
    (hy : y < s.height.toNat) : outOfCanvas x y s = false := by
  rw [Bool.eq_false_iff, Ne, outOfCanvas_iff]
  omega

/-! ## The obligations -/

/-- Settles O25, by the closed form of the fill with the gate Open. -/
theorem fillEngineStreams : Obligations.FillEngineStreams := by
  intro s color count hs hg
  rw [exec_writeColorRepeated_completes hs, State.afterFill, streamHead_of_open hg, faultAfterStream_of_open hg]
  simp only [State.log, ← List.append_assoc, solidChunks]
  rfl

/-- Settles O27, by the rule of writePixel outside the canvas and inside it. -/
theorem writePixelResult : Obligations.WritePixelResult := by
  intro s x y color hs
  refine ⟨fun hout => exec_writePixel_outside hs ((outOfCanvas_iff _ _ s).2 hout) color, fun hg hx0 hx hy0 hy => ?inside⟩
  case inside =>
    rw [exec_writePixel_inside hs (outOfCanvas_eq_false hx0 hx hy0 hy)]
    exact congrArg _ (afterPixel_of_open (s := s.afterWindow x.toInt y.toInt 1 1) hg color)

/-- Settles O28, by the closed form of the colour sequence with the gate Open. -/
theorem writePixelsResult : Obligations.WritePixelsResult := by
  intro s colors hs hg
  rw [exec_writePixels_completes hs, State.afterPixels, streamHead_of_open hg, faultAfterStream_of_open hg]
  simp only [State.log, ← List.append_assoc, hostChunkEvents]
  rfl

/-- Settles O30, by the three closed forms with the gate Idle. -/
theorem idleStreamsFaultAndRun : Obligations.IdleStreamsFaultAndRun := by
  intro s hs hg
  refine ⟨fun color count => ?fill, fun x y color hx0 hx hy0 hy => ?pixel, fun colors => ?sequence⟩
  case fill =>
    rw [exec_writeColorRepeated_completes hs, State.afterFill, streamHead_of_idle hg, faultAfterStream_of_idle hg]
    simp only [State.log, ← List.append_assoc]
  case pixel =>
    rw [exec_writePixel_inside hs (outOfCanvas_eq_false hx0 hx hy0 hy)]
    exact congrArg _ (afterPixel_of_idle (s := s.afterWindow x.toInt y.toInt 1 1) hg color)
  case sequence =>
    rw [exec_writePixels_completes hs, State.afterPixels, streamHead_of_idle hg, faultAfterStream_of_idle hg]
    simp only [State.log, ← List.append_assoc]

/-- Settles O31: each is its closed form, the guard included. -/
theorem linesAndRectanglesStreamOnce : Obligations.LinesAndRectanglesStreamOnce := fun _ x y color hs =>
  ⟨fun w => exec_completes hs (.writeFastHLine x y w color), fun h => exec_completes hs (.writeFastVLine x y h color),
    fun w h => exec_completes hs (.writeFillRect x y w h color)⟩

/-! ## The bytes of the chunks -/

/-- The bytes of a chunk. -/
def chunkBytes : Event → Option (List Byte)
  | .busWriteBytes bs => some bs
  | _ => none

theorem filterMap_streamHead {α : Type} {f : Event → Option α} (hfault : f (.fault .idleStream) = none)
    (hpin : ∀ p l, f (.pinSet p l) = none) (s : State) : (streamHead s).filterMap f = [] := by
  cases hg : s.inTx with
  | true => simp [streamHead_of_open hg, hpin]
  | false => simp [streamHead_of_idle hg, hpin, hfault]

theorem hostChunksFrom_bytes (colors : List U16) : ∀ (fuel k : Nat), colors.length - 64 * k ≤ fuel →
    ((hostChunksFrom colors k).filterMap chunkBytes).flatten = (colors.drop (64 * k)).flatMap pixelBytes := by
  intro fuel
  induction fuel with
  | zero =>
    intro k h
    rw [hostChunksFrom_done (by omega), List.drop_eq_nil_of_le (by omega)]
    rfl
  | succ fuel ih =>
    intro k h
    by_cases hk : 64 * k < colors.length
    · have hsplit : colors.drop (64 * k) = (colors.drop (64 * k)).take 64 ++ colors.drop (64 * (k + 1)) := by
        rw [Nat.mul_succ, ← List.drop_drop, List.take_append_drop]
      rw [hostChunksFrom_step hk, hsplit, List.flatMap_append, ← ih (k + 1) (by omega), ← hsplit]
      rfl
    · rw [hostChunksFrom_done (by omega), List.drop_eq_nil_of_le (by omega)]
      rfl

theorem hostChunkEvents_bytes (colors : List U16) :
    ((hostChunkEvents colors).filterMap chunkBytes).flatten = colors.flatMap pixelBytes := by
  have hfrom : hostChunkEvents colors = hostChunksFrom colors 0 := by
    rw [hostChunkEvents, hostChunksFrom, List.range_eq_range', Nat.sub_zero]
  rw [hfrom, hostChunksFrom_bytes colors _ 0 (Nat.le_refl _)]
  rfl

/-- Settles O29: chunk by chunk the bytes sent are those of the elements not sent before. -/
theorem writePixelsKeepsOrder : Obligations.WritePixelsKeepsOrder := by
  intro s colors hs
  refine ⟨_, _, exec_writePixels_completes hs colors, afterPixels_trace s colors, ?_⟩
  change ((ite (colors = []) [] (streamHead s ++ hostChunkEvents colors)).filterMap chunkBytes).flatten =
    colors.flatMap pixelBytes
  split
  · next hnil => rw [hnil]; rfl
  · rw [List.filterMap_append, filterMap_streamHead rfl (fun _ _ => rfl), List.nil_append, hostChunkEvents_bytes]

/-- The length of a chunk. -/
def chunkLength : Event → Option Nat
  | .busWriteBytes bs => some bs.length
  | _ => none

theorem chunkLength_solidChunk (c : U16) (n : Nat) : chunkLength (solidChunk c n) = some (2 * n) := by
  simp [solidChunk, chunkLength, pixelBytes, bytesU16, Nat.mul_comm]

theorem filterMap_chunkLength_solidChunks (c : U16) (n : Nat) :
    (solidChunks c n).filterMap chunkLength =
      List.replicate (n / 64) 128 ++ if n % 64 = 0 then [] else [2 * (n % 64)] := by
  have hfull : (List.replicate (n / 64) (solidChunk c 64)).filterMap chunkLength = List.replicate (n / 64) 128 := by
    rw [List.filterMap_replicate_of_some (chunkLength_solidChunk c 64)]
  rw [solidChunks, List.filterMap_append, hfull]
  split
  · rfl
  · simp [chunkLength_solidChunk]

/-- Settles O26: full chunks of 128 bytes, and one of the remainder where there is one. -/
theorem fillChunkCounts : Obligations.FillChunkCounts := by
  intro s color count hs
  refine ⟨_, _, exec_writeColorRepeated_completes hs color count, afterFill_trace s color _, ?_⟩
  generalize count.toNat = n
  have hlengths : (if n = 0 then [] else streamHead s ++ solidChunks color n).filterMap chunkLength =
      List.replicate (n / 64) 128 ++ if n % 64 = 0 then [] else [2 * (n % 64)] := by
    split
    · next h0 => rw [h0]; rfl
    · rw [List.filterMap_append, filterMap_streamHead rfl (fun _ _ => rfl), List.nil_append,
        filterMap_chunkLength_solidChunks]
  change (List.filterMap chunkLength _).length = _ ∧ (∀ m ∈ List.filterMap chunkLength _, m ≤ 128) ∧
    (List.filterMap chunkLength _).sum = _
  rw [hlengths]
  refine ⟨?count, ?bound, ?total⟩
  case count => split <;> simp <;> omega
  case bound =>
    intro m hm
    obtain hm | hm := List.mem_append.1 hm
    · rw [List.eq_of_mem_replicate hm]
    · split at hm
      · cases hm
      · rw [List.mem_singleton.1 hm]
        omega
  case total => split <;> simp <;> omega

end Sys2Proof.Machine

/-! PROOFS. The front end (spec/45_front_end.md R250 to R257, spec/70_reset_and_hazards.md R310). -/

namespace Sys2Proof.Machine

/-! ## Clipping -/

theorem clip_eq_some {W H : U16} {x y w h : Int} (hw : 0 < w) (hh : 0 < h) (hx : max x 0 < min (x + w) W.toNat)
    (hy : max y 0 < min (y + h) H.toNat) :
    clip W H x y w h =
      some (max x 0, max y 0, min (x + w) W.toNat - max x 0, min (y + h) H.toNat - max y 0) := by
  unfold clip
  rw [if_neg (by omega)]
  exact if_neg (by omega)

theorem clip_eq_none {W H : U16} {x y w h : Int}
    (he : w ≤ 0 ∨ h ≤ 0 ∨ min (x + w) W.toNat ≤ max x 0 ∨ min (y + h) H.toNat ≤ max y 0) :
    clip W H x y w h = none := by
  unfold clip
  by_cases hsize : w ≤ 0 ∨ h ≤ 0
  · exact if_pos hsize
  · rw [if_neg hsize]
    exact if_pos (by omega)

/-- clipRect emits no event, so it completes in every environment. -/
theorem exec_clipRect (s : State) (x y w h : U16) :
    exec (.clipRect x y w h) s = .next (s.afterClip x.toInt y.toInt w.toInt h.toInt) := by
  refine exec_of_same_trace (i := .clipRect x y w h) ?_
  dsimp only [effect, State.afterClip]
  split <;> rfl

theorem afterClip_of_some {s : State} {x y w h x' y' w' h' : Int}
    (hc : clip s.width s.height x y w h = some (x', y', w', h')) :
    s.afterClip x y w h = { s with results := s.results ++
      [.clip true ⟨BitVec.ofInt 16 x', BitVec.ofInt 16 y', BitVec.ofInt 16 w', BitVec.ofInt 16 h'⟩] } := by
  rw [State.afterClip, hc]

theorem afterClip_of_none {s : State} {x y w h : Int} (hc : clip s.width s.height x y w h = none) :
    s.afterClip x y w h =
      { s with results := s.results ++ [.clip false (Config.freeRect s.freeCount)], freeCount := s.freeCount + 1 } := by
  rw [State.afterClip, hc]

/-- Settles O39, by the two answers of `clip`. -/
theorem clipRectResult : Obligations.ClipRectResult := by
  intro s x y w h
  rw [exec_clipRect]
  refine ⟨fun hw hh hx hy => ?overlap, fun he => ⟨Config.freeRect s.freeCount, ?empty⟩⟩
  case overlap => rw [afterClip_of_some (clip_eq_some hw hh hx hy)]
  case empty => rw [afterClip_of_none (clip_eq_none he)]

/-- A number in the range of an `i16` is read back from its 16 bits (R94). -/
theorem toInt_ofInt_i16 {v : Int} (hlo : -32768 ≤ v) (hhi : v < 32768) : (BitVec.ofInt 16 v).toInt = v :=
  BitVec.toInt_ofInt_eq_self (by decide) hlo hhi

theorem toInt_i16_bounds (v : U16) : -32768 ≤ v.toInt ∧ v.toInt < 32768 :=
  ⟨BitVec.le_toInt v, BitVec.toInt_lt⟩

/-- Settles O40: `clip` is none exactly where no point is shared; else the trimmed bounds fit an `i16` and are the shared
points' bounds. -/
theorem clippingLaw : Obligations.ClippingLaw := by
  intro s x y w h
  obtain ⟨hxlo, hxhi⟩ := toInt_i16_bounds x
  obtain ⟨hylo, hyhi⟩ := toInt_i16_bounds y
  obtain ⟨hwlo, hwhi⟩ := toInt_i16_bounds w
  obtain ⟨hhlo, hhhi⟩ := toInt_i16_bounds h
  cases hc : clip s.width s.height x.toInt y.toInt w.toInt h.toInt with
  | none =>
    refine ⟨_, false, _, exec_clipRect s x y w h, by rw [afterClip_of_none hc], ?disjoint, by simp⟩
    case disjoint =>
      refine iff_of_true rfl ?_
      rintro ⟨px, py, hpx⟩
      rw [clip_eq_some (by omega) (by omega) (by omega) (by omega)] at hc
      cases hc
  | some r =>
    obtain ⟨x', y', w', h'⟩ := r
    obtain ⟨hw, hh, rfl, rfl, rfl, rfl, hw', hh'⟩ := clip_some hc
    refine ⟨_, true, _, exec_clipRect s x y w h, by rw [afterClip_of_some hc], ?shared, fun _ px py => ?points⟩
    case shared =>
      refine iff_of_false (by decide) (not_not.2 ⟨max x.toInt 0, max y.toInt 0, ?_⟩)
      omega
    case points =>
      rw [toInt_ofInt_i16 (by omega) (by omega), toInt_ofInt_i16 (by omega) (by omega),
        toInt_ofInt_i16 (by omega) (by omega), toInt_ofInt_i16 (by omega) (by omega)]
      omega

/-! ## One bracket -/

theorem exec_drawPixel_outside {s : State} (hs : s.stallAt = none) {x y : U16}
    (hout : outOfCanvas x.toInt y.toInt s = true) (color : U16) : exec (.drawPixel x y color) s = .next s := by
  rw [exec_completes hs, effect, if_pos hout]

/-- The state after a pixel in a bracket (R252). -/
theorem exec_drawPixel_inside {s : State} (hs : s.stallAt = none) {x y : U16}
    (hin : outOfCanvas x.toInt y.toInt s = false) (color : U16) :
    exec (.drawPixel x y color) s =
      .next ((s.afterOpen.afterWindow x.toInt y.toInt 1 1).afterPixel color).afterClose := by
  rw [exec_completes hs, effect, if_neg (Bool.eq_false_iff.1 hin)]
  rfl

theorem afterWindow_inTx (s : State) (x y w h : Int) : (s.afterWindow x y w h).inTx = s.inTx := rfl

/-- Settles O41, by the rule of drawPixel outside the canvas and inside it, where its bracket is Open. -/
theorem drawPixelResult : Obligations.DrawPixelResult := by
  intro s x y color hs
  refine ⟨fun hout => exec_drawPixel_outside hs ((outOfCanvas_iff _ _ s).2 hout) color, fun hx0 hx hy0 hy => ?inside⟩
  case inside =>
    rw [exec_drawPixel_inside hs (outOfCanvas_eq_false hx0 hx hy0 hy),
      afterPixel_of_open ((afterWindow_inTx _ _ _ _ _).trans (afterOpen_inTx s)), State.afterWindow, afterBounds_cfg,
      afterOpen_cfg]
    rfl

theorem afterFillRect_of_some {s : State} {x y w h x' y' w' h' : Int}
    (hc : clip s.width s.height x y w h = some (x', y', w', h')) (color : U16) :
    s.afterFillRect x y w h color =
      ((s.afterOpen.afterWindow x' y' w' h').afterFill color (w' * h').toNat).afterClose := by
  rw [State.afterFillRect, hc]
  rfl

theorem afterFillRect_of_none {s : State} {x y w h : Int} (hc : clip s.width s.height x y w h = none) (color : U16) :
    s.afterFillRect x y w h color = s := by
  rw [State.afterFillRect, hc]

/-- Settles O42: each is the clipped fill, which `clip` decides. -/
theorem drawClippedRectangles : Obligations.DrawClippedRectangles := by
  intro s x y color hs
  refine ⟨fun w => exec_completes hs (.drawFastHLine x y w color),
    fun h => exec_completes hs (.drawFastVLine x y h color), fun w h => exec_completes hs (.fillRect x y w h color),
    fun x y w h he => afterFillRect_of_none (clip_eq_none he) color, ?overlap⟩
  case overlap =>
    rintro x y w h _ _ hw hh rfl rfl hx hy
    exact afterFillRect_of_some (clip_eq_some hw hh hx hy) color

/-- The whole canvas is its own clip. -/
theorem clip_canvas {W H : U16} (hW : 0 < W.toNat) (hH : 0 < H.toNat) :
    clip W H 0 0 W.toNat H.toNat = some (0, 0, (W.toNat : Int), (H.toNat : Int)) := by
  rw [clip_eq_some (by omega) (by omega) (by omega) (by omega)]
  simp

/-- Settles O43: the clip of the canvas is the canvas. -/
theorem fillScreenFillsCanvas : Obligations.FillScreenFillsCanvas := by
  intro s color hs hW hH
  have hcount : ((s.width.toNat : Int) * (s.height.toNat : Int)).toNat = s.width.toNat * s.height.toNat := by
    rw [← Int.natCast_mul, Int.toNat_natCast]
  rw [exec_completes hs, effect, afterFillRect_of_some (clip_canvas hW hH), hcount]

/-- Settles O32: drawPixel leaves the gate Idle, so the stream after it raises the fault. -/
theorem prematureClose : Obligations.PrematureClose := by
  intro s x y color c cs hs hx0 hx hy0 hy
  have hin : outOfCanvas x.toInt y.toInt s.afterOpen = false :=
    outOfCanvas_eq_false hx0 (by rwa [afterOpen_width]) hy0 (by rwa [afterOpen_height])
  have ht : s.afterOpen.stallAt = none := by rw [afterOpen_stallAt, hs]
  let u := ((s.afterOpen.afterOpen.afterWindow x.toInt y.toInt 1 1).afterPixel color).afterClose
  have hu : u.stallAt = none := by
    have hwin : ∀ t : State, (t.afterWindow x.toInt y.toInt 1 1).stallAt = t.stallAt := fun _ => rfl
    simp [u, hwin, hs]
  have hgate : u.inTx = false := afterClose_inTx _
  refine ⟨_, u, _, exec_startWrite_completes hs, exec_drawPixel_inside ht hin color, exec_writePixels_completes hu _,
    afterOpen_inTx s, hgate, ?_⟩
  rw [afterPixels_faultIdleStream, if_neg (List.cons_ne_nil _ _), faultAfterStream_of_idle hgate]

/-! ## The scenario (spec/95_test_vectors.md P4) -/

theorem commandEvents_afterOpen (s : State) (c : Byte) (d : List Byte) (ms : U16) :
    commandEvents s.afterOpen c d ms = frameEvents s.cfg c d ms := by
  rw [commandEvents_open (afterOpen_inTx s), afterOpen_cfg]

/-- 240 by 240 pixels are 900 full chunks. -/
theorem solidChunks_canvas (color : U16) : solidChunks color (240 * 240) = List.replicate 900 (solidChunk color 64) :=
  List.append_nil _

theorem afterWindow_noOffset {s : State} (h : s.noOffset) (x y w k : Int) :
    s.afterWindow x y w k =
      s.afterBounds (BitVec.ofInt 16 x) (BitVec.ofInt 16 (x + w - 1)) (BitVec.ofInt 16 y)
        (BitVec.ofInt 16 (y + k - 1)) := by
  obtain ⟨hcol, hrow⟩ := h
  simp [State.afterWindow, hcol, hrow]

/-- With the gate Open and both comparators missing, a window is its three frames. -/
theorem windowEvents_of_open_of_miss {s : State} (hg : s.inTx = true) {xa xb ya yb : U16} (hx : xa ≠ s.cachedX0)
    (hy : ya ≠ s.cachedY0) :
    windowEvents s xa xb ya yb = frameEvents s.cfg s.cfg.cmdCaset (rangeBytes xa xb) 0 ++
      frameEvents s.cfg s.cfg.cmdRaset (rangeBytes ya yb) 0 ++ frameEvents s.cfg s.cfg.cmdRamwr [] 0 := by
  rw [windowEvents_eq, if_pos (.inl hx), if_pos (.inl hy)]
  simp only [commandEvents_open hg]

/-- The events of a fill in a bracket of its own. -/
theorem bracketedFill_trace {s : State} (hg : s.inTx = false) (xa xb ya yb color : U16) {n : Nat} (hn : n ≠ 0) :
    ((s.afterOpen.afterBounds xa xb ya yb).afterFill color n).afterClose.trace =
      s.trace ++ openEvents s ++ windowEvents s.afterOpen xa xb ya yb ++ [.pinSet s.cfg.pinDc s.cfg.lvlData] ++
        solidChunks color n ++ closeEvents s.cfg := by
  have hhead := streamHead_of_open (s := s.afterOpen.afterBounds xa xb ya yb) (afterOpen_inTx s)
  simp [hhead, hg, hn]

/-- Settles O44: the canvas's fill, its window missing both comparators. -/
theorem fillScreenScenario : Obligations.FillScreenScenario := by
  intro s color hs hg hW hH hcol hrow hx0 hx1 hy0 hy1
  have hoff : s.afterOpen.noOffset := ⟨(afterOpen_colStart s).trans hcol, (afterOpen_rowStart s).trans hrow⟩
  have hfill : exec (.fillScreen color) s =
      .next ((s.afterOpen.afterBounds 0 239 0 239).afterFill color (240 * 240)).afterClose := by
    rw [fillScreenFillsCanvas s color hs (by rw [hW]; decide) (by rw [hH]; decide), hW, hH, afterWindow_noOffset hoff]
    rfl
  have hwin := windowEvents_of_open_of_miss (afterOpen_inTx s) (xa := 0) (xb := 239) (ya := 0) (yb := 239)
    (by rw [afterOpen_cachedX0, hx0]; decide) (by rw [afterOpen_cachedY0, hy0]; decide)
  rw [afterOpen_cfg] at hwin
  refine ⟨_, hfill, ?trace, by simp, by simp, by simp, by simp⟩
  case trace =>
    rw [bracketedFill_trace hg _ _ _ _ color (by decide), hwin, solidChunks_canvas]
    simp only [← List.append_assoc]
    rfl

/-! ## One transaction (R257) -/

/-- Neither a `BusOpen` nor a `BusClose`. -/
def insideBracket : Event → Bool
  | .busOpen _ _ _ | .busClose => false
  | _ => true

theorem insideBracket_of_mem_frameEvents {cfg : Config} {c : Byte} {d : List Byte} {ms : U16} :
    ∀ e ∈ frameEvents cfg c d ms, insideBracket e = true := by
  intro e he
  obtain ⟨l, rfl⟩ | rfl | rfl | rfl := mem_frameEvents he <;> rfl

theorem insideBracket_of_mem_windowEvents {s : State} (hg : s.inTx = true) (xa xb ya yb : U16) :
    ∀ e ∈ windowEvents s xa xb ya yb, insideBracket e = true := by
  have hframe : ∀ (p : Prop) [Decidable p] (c : Byte) (d : List Byte),
      ∀ e ∈ (if p then frameEvents s.cfg c d 0 else []), insideBracket e = true := by
    intro p _ c d
    split
    · exact insideBracket_of_mem_frameEvents
    · simp
  rw [windowEvents_eq]
  simp only [commandEvents_open hg, List.forall_mem_append]
  exact ⟨⟨hframe _ _ _, hframe _ _ _⟩, insideBracket_of_mem_frameEvents⟩

theorem insideBracket_of_mem_solidChunks (c : U16) (n : Nat) : ∀ e ∈ solidChunks c n, insideBracket e = true := by
  intro e he
  obtain ⟨bs, rfl, -⟩ := solidChunks_hold c n e he
  rfl

/-- What an operation from Idle that brackets itself answers: its events are the bracket's and others inside it. -/
def OneTransaction (s t : State) : Prop :=
  ∃ mid, t.trace = s.trace ++ (openEvents s ++ mid ++ closeEvents s.cfg) ∧ (∀ e ∈ mid, insideBracket e = true) ∧
    t.inTx = false ∧ t.faultIdleStream = s.faultIdleStream

/-- An empty clip, a pixel outside, or one transaction. -/
def SameOrOneTransaction (s t : State) : Prop := t = s ∨ OneTransaction s t

theorem oneTransaction_fill {s : State} (hg : s.inTx = false) (xa xb ya yb color : U16) {n : Nat} (hn : n ≠ 0) :
    OneTransaction s ((s.afterOpen.afterBounds xa xb ya yb).afterFill color n).afterClose := by
  refine ⟨windowEvents s.afterOpen xa xb ya yb ++ [.pinSet s.cfg.pinDc s.cfg.lvlData] ++ solidChunks color n, ?_, ?_,
    afterClose_inTx _, ?_⟩
  · rw [bracketedFill_trace hg _ _ _ _ color hn]
    simp only [List.append_assoc]
  · simp only [List.forall_mem_append]
    exact ⟨⟨insideBracket_of_mem_windowEvents (afterOpen_inTx s) _ _ _ _, by simp [insideBracket]⟩,
      insideBracket_of_mem_solidChunks color n⟩
  · simp [hn, faultAfterStream]

theorem oneTransaction_pixel {s : State} (hg : s.inTx = false) (xa xb ya yb color : U16) :
    OneTransaction s ((s.afterOpen.afterBounds xa xb ya yb).afterPixel color).afterClose := by
  have hopen : (s.afterOpen.afterBounds xa xb ya yb).inTx = true := afterOpen_inTx s
  rw [afterPixel_of_open hopen]
  refine ⟨windowEvents s.afterOpen xa xb ya yb ++ [.pinSet s.cfg.pinDc s.cfg.lvlData, .busWriteBytes (pixelBytes color)],
    ?_, ?_, afterClose_inTx _, by simp⟩
  · simp [hg]
  · simp only [List.forall_mem_append]
    exact ⟨insideBracket_of_mem_windowEvents (afterOpen_inTx s) _ _ _ _, by simp [insideBracket]⟩

theorem afterFillRect_sameOrOneTransaction {s : State} (hg : s.inTx = false) (x y w h : Int) (color : U16) :
    SameOrOneTransaction s (s.afterFillRect x y w h color) := by
  cases hc : clip s.width s.height x y w h with
  | none => exact .inl (afterFillRect_of_none hc color)
  | some r =>
    obtain ⟨x', y', w', h'⟩ := r
    obtain ⟨-, -, -, -, -, -, hw, hh⟩ := clip_some hc
    rw [afterFillRect_of_some hc]
    have hpos : 0 < w' * h' := Int.mul_pos hw hh
    exact .inr (oneTransaction_fill hg _ _ _ _ color (by omega))

theorem effect_drawPixel_sameOrOneTransaction {s : State} (hg : s.inTx = false) (x y color : U16) :
    SameOrOneTransaction s (effect (.drawPixel x y color) s) := by
  dsimp only [effect]
  split
  · exact .inl rfl
  · exact .inr (oneTransaction_pixel hg _ _ _ _ color)

/-- Exactly one event of the bracket's two is counted by a test that no event inside meets. -/
theorem length_filter_bracket {s : State} {mid : List Event} {p : Event → Bool} (hmid : ∀ e ∈ mid, p e = false)
    (hbracket : ((openEvents s ++ closeEvents s.cfg).filter p).length = 1) :
    ((openEvents s ++ mid ++ closeEvents s.cfg).filter p).length = 1 := by
  have hnone : mid.filter p = [] := List.filter_eq_nil_iff.2 fun e he => by simp [hmid e he]
  rwa [List.filter_append, List.filter_append, hnone, List.append_nil, ← List.filter_append]

theorem frontEnd_of_sameOrOneTransaction {s t : State} (hg : s.inTx = false) (h : SameOrOneTransaction s t) :
    ∃ es, t.trace = s.trace ++ es ∧ t.inTx = false ∧ t.faultIdleStream = s.faultIdleStream ∧
      (es = [] ∨
        ((es.filter fun e => match e with | .busOpen _ _ _ => true | _ => false).length = 1 ∧
         (es.filter fun e => e == .busClose).length = 1)) := by
  obtain rfl | ⟨mid, htrace, hmid, hgate, hfault⟩ := h
  · exact ⟨[], (List.append_nil _).symm, hg, rfl, .inl rfl⟩
  · refine ⟨_, htrace, hgate, hfault, .inr ⟨length_filter_bracket (fun e he => ?_) rfl,
      length_filter_bracket (fun e he => ?_) rfl⟩⟩ <;>
    · have := hmid e he
      cases e <;> simp_all [insideBracket]

/-- Settles O45: each of the five is the clipped fill or the bracketed pixel. -/
theorem frontEndOneTransaction : Obligations.FrontEndOneTransaction := by
  intro s i hs hg hi
  refine ⟨effect i s, ?_⟩
  have h : SameOrOneTransaction s (effect i s) := by
    obtain ⟨x, y, c, rfl⟩ | ⟨x, y, w, c, rfl⟩ | ⟨x, y, k, c, rfl⟩ | ⟨x, y, w, k, c, rfl⟩ | ⟨c, rfl⟩ := hi
    · exact effect_drawPixel_sameOrOneTransaction hg x y c
    all_goals exact afterFillRect_sameOrOneTransaction hg _ _ _ _ c
  obtain ⟨es, hes⟩ := frontEnd_of_sameOrOneTransaction hg h
  exact ⟨es, exec_completes hs i, hes⟩

end Sys2Proof.Machine
